-- ==== Sys2Proof/Word.lean ====
section
/-! DEFINITION. The words of the block: bytes, byte strings and 16-bit tick counts (00_scope.md R6, 10_state.md R25). -/

namespace Sys2Proof

/-- A byte, bits 7 (most significant) down to 0 (R6). -/
abbrev Byte := BitVec 8

/-- A byte string, first byte first in time and at the lowest FIFO offset (R6). -/
abbrev Bytes := List Byte

/-- A 16-bit unsigned interval in ticks (R25). -/
abbrev Ticks := BitVec 16

end Sys2Proof
end

