-- ==== Sys2Proof/Config.lean ====
section
/-! DEFINITION. The implementation parameters of 00_scope.md R4 and the free values (draws, R7).
The parameters with a default are the arguments `Params`; a parameter marked OPEN is a constant with no body. -/

namespace Sys2Proof

/-- The cipher record `CIPHER` of R5. The block size is `blockPred + 1`, so it is at least 1; a cipher gives
each byte of its output as an unknown function of the whole input, so `LEN_ENC` and `LEN_DEC` hold of every
such record and every pair of functions with those two properties is one (log entry 4). -/
structure Cipher where
  blockPred : Nat
  encByte : Bytes → Nat → Byte
  decByte : Bytes → Nat → Byte
deriving Inhabited

/-- The block size `B`. -/
def Cipher.B (c : Cipher) : Nat := c.blockPred + 1

/-- `ENC`. -/
def Cipher.enc (c : Cipher) (x : Bytes) : Bytes := (List.range x.length).map (c.encByte x)

/-- `DEC`. -/
def Cipher.dec (c : Cipher) (x : Bytes) : Bytes := (List.range x.length).map (c.decByte x)

/-- Property `INV` of R5: `DEC(ENC(x)) = x` for every `x` whose length is a multiple of `B`. -/
def Cipher.Inverts (c : Cipher) : Prop := ∀ x : Bytes, x.length % c.B = 0 → c.dec (c.enc x) = x

namespace Config

/-- `HDR_LEN`. -/
abbrev hdrLen : Nat := 4

/-- `BROADCAST`. -/
abbrev broadcast : Byte := 255

/-- The largest string the radio's FIFO and its received-bytes register can hold (R34, R36). -/
abbrev fifoMax : Nat := 255

/-- Whether the block was given a `CIPHER` (R102). OPEN. -/
opaque cipherPresent : Bool

/-- The `CIPHER` (R5). OPEN; used only while `S.CIPHER_EN = 1`. -/
opaque cipher : Cipher

/-- `CAD_WINDOW - 1` (R4: `CAD_WINDOW` is at least 1). OPEN. -/
opaque cadWindowPred : Nat

/-- `CAD_WINDOW`, at least one tick. -/
def cadWindow : Nat := cadWindowPred + 1

/-- `BACKOFF_MAX` (R206). OPEN. -/
opaque backoffMax : Nat

/-- `TICK`: the real duration of one tick of `NOW`, in milliseconds. OPEN (R4: nominal 1). -/
opaque tick : Rat

/-- `DEF_RETRIES`, read by the pseudo-operations of R111 only. OPEN. -/
opaque defRetries : Byte

/-- `DEF_CAD_TIMEOUT` (R111). OPEN. -/
opaque defCadTimeout : Ticks

/-- `DEF_RETRY_TIMEOUT` (R111). OPEN. -/
opaque defRetryTimeout : Ticks

/-- `DEF_WPS_TIMEOUT` (R111). OPEN. -/
opaque defWpsTimeout : Ticks

/-- Free byte `i` of draw number `k` (R7 `draw bytes(n)`; log entry 6). -/
opaque freeByte : Nat → Nat → Byte

/-- Free natural number `i` of draw number `k` (R7 `draw x in [a, b]`; log entry 6). -/
opaque freeNat : Nat → Nat → Nat

end Config

/-- The parameters of R4 that have a default, which stands unless the argument is given. Every value of this
structure is one R4 allows: `FIFO_CAP` is `HDR_LEN + fifoExtra`, at least 4 and at most 255 (log entry 2), and
`ACK_MASK` has exactly the bit `ackBit` set (log entry 3). -/
structure Params where
  fifoExtra : Fin 252 := 251
  ackBit : Fin 8 := 7
deriving DecidableEq, Repr

/-- `FIFO_CAP`, the largest encoded frame; by default 255. -/
def Params.fifoCap (p : Params) : Nat := Config.hdrLen + p.fifoExtra.val

/-- `ACK_MASK`, the one `flags` bit that marks an acknowledgment; by default `0x80`. -/
def Params.ackMask (p : Params) : Byte := BitVec.twoPow 8 p.ackBit.val

end Sys2Proof
end

