-- ==== Sys2Proof/Syntax.lean ====
section
/-! DEFINITION. The syntax: what selects an instruction (`Code`), and one constructor of `Instr` per row of
spec/opcode_table.json (30_encoding.md R90 to R100, R112). -/

namespace Sys2Proof

/-- The four header bytes of a frame, in wire order (R90). `dst` is the spec's `to`, `src` its `from`. -/
structure Header where
  dst : Byte
  src : Byte
  id : Byte
  flags : Byte
deriving DecidableEq, Repr

/-- The two users of the gate: `C` the caller sequencer, `H` the handler sequencer (R200). -/
inductive Sequencer where
  | c
  | h
deriving DecidableEq, Repr

/-- The seven gate phases `G_START` to `G_TRIG` (R200). -/
inductive GatePhase where
  | start
  | cad
  | poll
  | busy
  | backoff
  | fifo
  | trig
deriving DecidableEq, Repr

/-- The values of `C.SEQ` (R39). -/
inductive CPhase where
  | idle
  | gate (g : GatePhase)
  | after
  | wWait
  | sWait
deriving DecidableEq, Repr

/-- The values of `C.OP` (R39). -/
inductive COp where
  | send
  | sendw
  | waitsent
deriving DecidableEq, Repr

/-- The values of `H.SEQ` (R40). -/
inductive HPhase where
  | idle
  | flags
  | sent
  | read
  | filter
  | gate (g : GatePhase)
  | deliver
deriving DecidableEq, Repr

/-- The three interrupt conditions of R243; the CAD condition is polled by one sequencer's gate. -/
inductive IrqCond where
  | sent
  | recv
  | cad (a : Sequencer)
deriving DecidableEq, Repr

/-- One record of a script (R96, R100): a command record on the command port, or an event or step record
that says which other agent moves. -/
inductive Record where
  | cmd (bytes : Bytes)
  | evt (bytes : Bytes)
deriving DecidableEq, Repr

/-- What a row of the opcode table is matched on (R112): a record, a received frame, an interrupt condition,
or the value of a phase register. -/
inductive Code where
  | record (r : Record)
  | frame (bytes : Bytes)
  | irq (cond : IrqCond)
  | phaseC (p : CPhase) (op : COp)
  | phaseH (p : HPhase)
deriving DecidableEq, Repr

/-- The instructions: one constructor per row of spec/opcode_table.json. -/
inductive Instr where
  -- commands (format CMD, R96 and R98)
  | send (dst id flags : Byte) (payload : Bytes)
  | sendw (dst flags retries : Byte) (payload : Bytes)
  | modeIdle
  | modeRx
  | modeTx
  | sleep
  | waitsent
  | close
  | setcb (en : Byte)
  | init (addr cfg power preset : Byte) (cad retry wps : Ticks)
  | encode (dst src id flags : Byte) (payload : Bytes)
  | decode (bytes : Bytes)
  | illegal (op : Byte)
  -- frame classes (format FRAME, R93)
  | frameAck (dst src id flags : Byte) (payload : Bytes)
  | frameDataBcast (src id flags : Byte) (payload : Bytes)
  | frameDataUcast (dst src id flags : Byte) (payload : Bytes)
  -- event and step records (format EVT, R100)
  | evTick
  | evTxdone
  | evRxdone (crcValid : Bool) (rssi snr : Byte) (bytes : Bytes)
  | evCaddone (detected : Bool)
  | stepC
  | stepH
  | stepX
  -- interrupt conditions (format IRQ, R243)
  | irqSent
  | irqRecv
  | irqCad (a : Sequencer)
  -- handler phases (format PHASE)
  | hIdle
  | hFlags
  | hSent
  | hRead
  | hFilter
  | hDeliver
  -- gate phases (format PHASE, R200)
  | gStart (a : Sequencer)
  | gCad (a : Sequencer)
  | gPoll (a : Sequencer)
  | gBusy (a : Sequencer)
  | gBackoff (a : Sequencer)
  | gFifo (a : Sequencer)
  | gTrig (a : Sequencer)
  -- caller phases (format PHASE)
  | cAfterSend
  | cAfterSendw
  | wWait
  | sWait
deriving DecidableEq, Repr

end Sys2Proof
end

