-- ==== Sys2Proof/WellFormed.lean ====
section
/-! DEFINITION. Which terms of `Instr` are instructions of the spec: the operand ranges of R98 and R100 and the
tests of the frame classes of R93. Operands the spec calls illegal on the command port (R102) are well formed:
the block answers them. -/

namespace Sys2Proof

/-- The command opcodes of R96. Every other first byte of a command record is `ILLEGAL`. -/
def legalOpcodes : List Byte :=
  [0x01, 0x02, 0x03, 0x04, 0x05, 0x06, 0x07, 0x08, 0x09, 0x0A, 0x10, 0x11]

/-- A byte string whose length fits the one-byte count before it (R98). -/
def countable (p : Bytes) : Bool := decide (p.length ≤ 255)

/-- The reserved ACK bit of a `flags` byte is set (R91). -/
def ackBit (par : Params) (flags : Byte) : Bool := decide (flags &&& par.ackMask ≠ 0)

/-- A frame's payload of at most `255 - HDR_LEN` bytes: no longer frame can be received (R34, R94, R245;
log entry 22). -/
def receivable (p : Bytes) : Bool := decide (Config.hdrLen + p.length ≤ Config.fifoMax)

/-- The term is an instruction of the spec, for a block with these parameters. -/
def Instr.wellFormed (par : Params) : Instr → Bool
  | .send _ _ _ p => countable p
  | .sendw _ _ _ p => countable p
  | .modeIdle => true
  | .modeRx => true
  | .modeTx => true
  | .sleep => true
  | .waitsent => true
  | .close => true
  | .setcb _ => true
  | .init _ _ _ _ _ _ _ => true
  | .encode _ _ _ _ p => countable p
  | .decode b => countable b
  | .illegal op => !legalOpcodes.contains op
  | .frameAck _ _ _ flags p => ackBit par flags && receivable p
  | .frameDataBcast _ _ flags p => !ackBit par flags && receivable p
  | .frameDataUcast dst _ _ flags p => !ackBit par flags && decide (dst ≠ Config.broadcast) && receivable p
  | .evTick => true
  | .evTxdone => true
  | .evRxdone _ _ _ b => countable b
  | .evCaddone _ => true
  | .stepC => true
  | .stepH => true
  | .stepX => true
  | .irqSent => true
  | .irqRecv => true
  | .irqCad _ => true
  | .hIdle => true
  | .hFlags => true
  | .hSent => true
  | .hRead => true
  | .hFilter => true
  | .hDeliver => true
  | .gStart _ => true
  | .gCad _ => true
  | .gPoll _ => true
  | .gBusy _ => true
  | .gBackoff _ => true
  | .gFifo _ => true
  | .gTrig _ => true
  | .cAfterSend => true
  | .cAfterSendw => true
  | .wWait => true
  | .sWait => true

end Sys2Proof
end

