-- ==== Sys2Proof/Decode.lean ====
section
/-! DEFINITION. The decoder, total on any bytes, and after it the encoder, both written from the tables of
30_encoding.md (R90 to R102, R112). The decoder answers `none` for what is no record of the script: an empty or
short record, a record with bytes left over, an event code the table does not have, an event operand out of range. -/

namespace Sys2Proof

/-! ## Opcodes and record codes (R96, R100) -/

/-- `SEND`. -/
def opSend : Byte := 0x01
/-- `SENDW`. -/
def opSendw : Byte := 0x02
/-- `MODE.IDLE`. -/
def opModeIdle : Byte := 0x03
/-- `MODE.RX`. -/
def opModeRx : Byte := 0x04
/-- `MODE.TX`. -/
def opModeTx : Byte := 0x05
/-- `SLEEP`. -/
def opSleep : Byte := 0x06
/-- `WAITSENT`. -/
def opWaitsent : Byte := 0x07
/-- `CLOSE`. -/
def opClose : Byte := 0x08
/-- `SETCB`. -/
def opSetcb : Byte := 0x09
/-- `INIT`. -/
def opInit : Byte := 0x0A
/-- `ENCODE`. -/
def opEncode : Byte := 0x10
/-- `DECODE`. -/
def opDecode : Byte := 0x11
/-- `EV.TICK`. -/
def evTickCode : Byte := 0x80
/-- `EV.TXDONE`. -/
def evTxdoneCode : Byte := 0x81
/-- `EV.RXDONE`. -/
def evRxdoneCode : Byte := 0x82
/-- `EV.CADDONE`. -/
def evCaddoneCode : Byte := 0x83
/-- `STEP.C`. -/
def stepCCode : Byte := 0x90
/-- `STEP.H`. -/
def stepHCode : Byte := 0x91
/-- `STEP.X`. -/
def stepXCode : Byte := 0x92

/-! ## Operand assembly (R101) -/

/-- A 16-bit operand, low byte first: `lo + 256 * hi` (R61, R101). -/
def ticksOf (lo hi : Byte) : Ticks := BitVec.ofNat 16 (lo.toNat + 256 * hi.toNat)

/-- The byte at the lower offset of a 16-bit operand. -/
def ticksLo (t : Ticks) : Byte := BitVec.ofNat 8 t.toNat

/-- The byte at the higher offset of a 16-bit operand. -/
def ticksHi (t : Ticks) : Byte := BitVec.ofNat 8 (t.toNat / 256)

/-- A one-byte flag operand: 0 or 1, any other value is no operand (R100). -/
def flagOf (b : Byte) : Option Bool :=
  if b = 0 then some false else if b = 1 then some true else none

/-- A count byte and the bytes it counts, with what is left over (R98). -/
def parseCounted : Bytes → Option (Bytes × Bytes)
  | [] => none
  | n :: tail => if n.toNat ≤ tail.length then some (tail.take n.toNat, tail.drop n.toNat) else none

/-! ## Command records (R98) -/

/-- Format `CS` after the opcode. -/
def parseSend : Bytes → Option (Instr × Bytes)
  | dst :: id :: flags :: tail => (parseCounted tail).map fun q => (.send dst id flags q.1, q.2)
  | _ => none

/-- Format `CW` after the opcode. -/
def parseSendw : Bytes → Option (Instr × Bytes)
  | dst :: flags :: retries :: tail => (parseCounted tail).map fun q => (.sendw dst flags retries q.1, q.2)
  | _ => none

/-- Format `C1` after the opcode. -/
def parseSetcb : Bytes → Option (Instr × Bytes)
  | en :: tail => some (.setcb en, tail)
  | _ => none

/-- Format `CI` after the opcode. -/
def parseInit : Bytes → Option (Instr × Bytes)
  | addr :: cfg :: power :: preset :: cl :: ch :: rl :: rh :: wl :: wh :: tail =>
    some (.init addr cfg power preset (ticksOf cl ch) (ticksOf rl rh) (ticksOf wl wh), tail)
  | _ => none

/-- Format `CE` after the opcode. -/
def parseEncode : Bytes → Option (Instr × Bytes)
  | dst :: src :: id :: flags :: tail => (parseCounted tail).map fun q => (.encode dst src id flags q.1, q.2)
  | _ => none

/-- Format `CD` after the opcode. -/
def parseDecode (tail : Bytes) : Option (Instr × Bytes) :=
  (parseCounted tail).map fun q => (.decode q.1, q.2)

/-- A command and the bytes after it (R96, R98; an opcode not in the table is `ILLEGAL`, R102). -/
def parseCmd : Bytes → Option (Instr × Bytes)
  | [] => none
  | op :: tail =>
    if op = opSend then parseSend tail
    else if op = opSendw then parseSendw tail
    else if op = opModeIdle then some (.modeIdle, tail)
    else if op = opModeRx then some (.modeRx, tail)
    else if op = opModeTx then some (.modeTx, tail)
    else if op = opSleep then some (.sleep, tail)
    else if op = opWaitsent then some (.waitsent, tail)
    else if op = opClose then some (.close, tail)
    else if op = opSetcb then parseSetcb tail
    else if op = opInit then parseInit tail
    else if op = opEncode then parseEncode tail
    else if op = opDecode then parseDecode tail
    else some (.illegal op, tail)

/-- A record is whole when nothing is left over; an `ILLEGAL` record is consumed whatever follows its opcode
(R96 "consumed whole", R102). -/
def wholeRecord : Option (Instr × Bytes) → Option Instr
  | some (.illegal op, _) => some (.illegal op)
  | some (i, []) => some i
  | some (_, _ :: _) => none
  | none => none

/-- Decode a command record. -/
def decodeCmd (r : Bytes) : Option Instr := wholeRecord (parseCmd r)

/-! ## Event and step records (R100) -/

/-- `EV.RXDONE` after its code. -/
def parseRxdone : Bytes → Option (Instr × Bytes)
  | crc :: rssi :: snr :: tail =>
    (flagOf crc).bind fun v => (parseCounted tail).map fun q => (.evRxdone v rssi snr q.1, q.2)
  | _ => none

/-- `EV.CADDONE` after its code. -/
def parseCaddone : Bytes → Option (Instr × Bytes)
  | det :: tail => (flagOf det).map fun d => (.evCaddone d, tail)
  | _ => none

/-- An event or step record and the bytes after it. -/
def parseEvt : Bytes → Option (Instr × Bytes)
  | [] => none
  | code :: tail =>
    if code = evTickCode then some (.evTick, tail)
    else if code = evTxdoneCode then some (.evTxdone, tail)
    else if code = evRxdoneCode then parseRxdone tail
    else if code = evCaddoneCode then parseCaddone tail
    else if code = stepCCode then some (.stepC, tail)
    else if code = stepHCode then some (.stepH, tail)
    else if code = stepXCode then some (.stepX, tail)
    else none

/-- Decode an event or step record. -/
def decodeEvt (r : Bytes) : Option Instr := wholeRecord (parseEvt r)

/-- Decode one record of a script. -/
def decodeRecord : Record → Option Instr
  | .cmd r => decodeCmd r
  | .evt r => decodeEvt r

/-! ## Frames (R90, R93) -/

/-- Split the first four bytes as header; the remainder is the payload (R95, R125). `none` is `FrameTooShort`. -/
def splitHeader : Bytes → Option (Header × Bytes)
  | dst :: src :: id :: flags :: payload => some (⟨dst, src, id, flags⟩, payload)
  | _ => none

/-- The frame is an acknowledgment: `flags & ACK_MASK` is not 0 (R91). -/
def isAck (par : Params) (flags : Byte) : Bool := decide (flags &&& par.ackMask ≠ 0)

/-- The three frame classes of R93. -/
inductive FrameClass where
  | ack
  | dataBcast
  | dataUcast
deriving DecidableEq, Repr

/-- The class of a header, tested in the order of R93. -/
def classOf (par : Params) (h : Header) : FrameClass :=
  if isAck par h.flags then .ack else if h.dst = Config.broadcast then .dataBcast else .dataUcast

/-- The instruction a frame of at least four bytes is (R93). -/
def frameInstr (par : Params) (h : Header) (payload : Bytes) : Instr :=
  match classOf par h with
  | .ack => .frameAck h.dst h.src h.id h.flags payload
  | .dataBcast => .frameDataBcast h.src h.id h.flags payload
  | .dataUcast => .frameDataUcast h.dst h.src h.id h.flags payload

/-- Decode a received frame; fewer than four bytes is no frame (R93). -/
def decodeFrame (par : Params) (f : Bytes) : Option Instr := (splitHeader f).map fun q => frameInstr par q.1 q.2

/-! ## Rows selected by a register (R112) -/

/-- The row an interrupt condition selects. -/
def decodeIrq : IrqCond → Instr
  | .sent => .irqSent
  | .recv => .irqRecv
  | .cad a => .irqCad a

/-- The row of a gate phase, run by sequencer `a`. -/
def gateInstr (a : Sequencer) : GatePhase → Instr
  | .start => .gStart a
  | .cad => .gCad a
  | .poll => .gPoll a
  | .busy => .gBusy a
  | .backoff => .gBackoff a
  | .fifo => .gFifo a
  | .trig => .gTrig a

/-- The row selected by `C.SEQ` (and `C.OP` in `C_AFTER`): none in `C_IDLE`, none for `C_AFTER` of a `WAITSENT`. -/
def selectC : CPhase → COp → Option Instr
  | .idle, _ => none
  | .gate g, _ => some (gateInstr .c g)
  | .after, .send => some .cAfterSend
  | .after, .sendw => some .cAfterSendw
  | .after, .waitsent => none
  | .wWait, _ => some .wWait
  | .sWait, _ => some .sWait

/-- The row selected by `H.SEQ`. -/
def selectH : HPhase → Instr
  | .idle => .hIdle
  | .flags => .hFlags
  | .sent => .hSent
  | .read => .hRead
  | .filter => .hFilter
  | .gate g => gateInstr .h g
  | .deliver => .hDeliver

/-- The decoder of a block with these parameters: the class of a frame depends on `ACK_MASK` (R91, R93). -/
def decode (par : Params) : Code → Option Instr
  | .record r => decodeRecord r
  | .frame f => decodeFrame par f
  | .irq q => some (decodeIrq q)
  | .phaseC p op => selectC p op
  | .phaseH p => some (selectH p)

/-! ## The encoder -/

/-- A byte string with its one-byte count before it (R98). -/
def counted (p : Bytes) : Bytes := BitVec.ofNat 8 p.length :: p

/-- A flag operand as a byte. -/
def flagByte (b : Bool) : Byte := if b then 1 else 0

/-- The code that selects an instruction. -/
def encode : Instr → Code
  | .send dst id flags p => .record (.cmd (opSend :: dst :: id :: flags :: counted p))
  | .sendw dst flags retries p => .record (.cmd (opSendw :: dst :: flags :: retries :: counted p))
  | .modeIdle => .record (.cmd [opModeIdle])
  | .modeRx => .record (.cmd [opModeRx])
  | .modeTx => .record (.cmd [opModeTx])
  | .sleep => .record (.cmd [opSleep])
  | .waitsent => .record (.cmd [opWaitsent])
  | .close => .record (.cmd [opClose])
  | .setcb en => .record (.cmd [opSetcb, en])
  | .init addr cfg power preset cad retry wps =>
    .record (.cmd [opInit, addr, cfg, power, preset, ticksLo cad, ticksHi cad, ticksLo retry, ticksHi retry,
      ticksLo wps, ticksHi wps])
  | .encode dst src id flags p => .record (.cmd (opEncode :: dst :: src :: id :: flags :: counted p))
  | .decode b => .record (.cmd (opDecode :: counted b))
  | .illegal op => .record (.cmd [op])
  | .frameAck dst src id flags p => .frame (dst :: src :: id :: flags :: p)
  | .frameDataBcast src id flags p => .frame (Config.broadcast :: src :: id :: flags :: p)
  | .frameDataUcast dst src id flags p => .frame (dst :: src :: id :: flags :: p)
  | .evTick => .record (.evt [evTickCode])
  | .evTxdone => .record (.evt [evTxdoneCode])
  | .evRxdone crc rssi snr b => .record (.evt (evRxdoneCode :: flagByte crc :: rssi :: snr :: counted b))
  | .evCaddone det => .record (.evt [evCaddoneCode, flagByte det])
  | .stepC => .record (.evt [stepCCode])
  | .stepH => .record (.evt [stepHCode])
  | .stepX => .record (.evt [stepXCode])
  | .irqSent => .irq .sent
  | .irqRecv => .irq .recv
  | .irqCad a => .irq (.cad a)
  | .hIdle => .phaseH .idle
  | .hFlags => .phaseH .flags
  | .hSent => .phaseH .sent
  | .hRead => .phaseH .read
  | .hFilter => .phaseH .filter
  | .hDeliver => .phaseH .deliver
  | .gStart .c => .phaseC (.gate .start) .send
  | .gStart .h => .phaseH (.gate .start)
  | .gCad .c => .phaseC (.gate .cad) .send
  | .gCad .h => .phaseH (.gate .cad)
  | .gPoll .c => .phaseC (.gate .poll) .send
  | .gPoll .h => .phaseH (.gate .poll)
  | .gBusy .c => .phaseC (.gate .busy) .send
  | .gBusy .h => .phaseH (.gate .busy)
  | .gBackoff .c => .phaseC (.gate .backoff) .send
  | .gBackoff .h => .phaseH (.gate .backoff)
  | .gFifo .c => .phaseC (.gate .fifo) .send
  | .gFifo .h => .phaseH (.gate .fifo)
  | .gTrig .c => .phaseC (.gate .trig) .send
  | .gTrig .h => .phaseH (.gate .trig)
  | .cAfterSend => .phaseC .after .send
  | .cAfterSendw => .phaseC .after .sendw
  | .wWait => .phaseC .wWait .sendw
  | .sWait => .phaseC .sWait .waitsent

/-! ## Pseudo-operations (R111) -/

/-- DOC0's calls with defaulted arguments. -/
inductive Pseudo where
  | send (p : Bytes) (dst : Byte)
  | sendId (p : Bytes) (dst id : Byte)
  | sendToWait (p : Bytes) (dst : Byte)
  | sendToWaitFlags (p : Bytes) (dst flags : Byte)
  | registerCallback
  | removeCallback
  | construct (addr : Byte) (ack cipher : Bool) (power preset : Byte)
  | waitPacketSent
deriving DecidableEq, Repr

/-- `cfg` of `INIT`: bit 0 is `ack_en`, bit 1 is `cipher_en` (R98). -/
def cfgByte (ack cipher : Bool) : Byte := flagByte ack ||| (flagByte cipher <<< 1)

/-- The expansion of a pseudo-operation (R111). -/
def Pseudo.expand : Pseudo → Instr
  | .send p dst => .send dst 0 0 p
  | .sendId p dst id => .send dst id 0 p
  | .sendToWait p dst => .sendw dst 0 Config.defRetries p
  | .sendToWaitFlags p dst flags => .sendw dst flags Config.defRetries p
  | .registerCallback => .setcb 1
  | .removeCallback => .setcb 0
  | .construct addr ack cipher power preset =>
    .init addr (cfgByte ack cipher) power preset Config.defCadTimeout Config.defRetryTimeout Config.defWpsTimeout
  | .waitPacketSent => .waitsent

/-! ## Words of the opcode table -/

/-- The longest record: six bytes before a payload of 255. -/
def longestRecord : Nat := 261

/-- The longest record whose count byte is 0: `INIT` (11 bytes). -/
def shortRecord : Nat := 11

/-- The first `n` bytes of a word, the first byte its least significant eight bits. -/
def bytesOfWord (n w : Nat) : Bytes := (List.range n).map fun i => BitVec.ofNat 8 (w / 2 ^ (8 * i))

/-- The four header bytes of a 32-bit frame word, `to` as the most significant byte (R112). -/
def frameOfWord (w : Nat) : Bytes :=
  [BitVec.ofNat 8 (w / 2 ^ 24), BitVec.ofNat 8 (w / 2 ^ 16), BitVec.ofNat 8 (w / 2 ^ 8), BitVec.ofNat 8 w]

/-- The bytes of a record word, and `zeros` zero bytes above its `nbits` bits. -/
def paddedWord (zeros nbits w : Nat) : Bytes :=
  bytesOfWord ((nbits + 7) / 8) (w % 2 ^ nbits) ++ List.replicate zeros 0

/-- A frame word is a word of 32 bits: the only rows of the table of that width are the frame classes. -/
def isFrameWord (nbits : Nat) : Bool := nbits == 32

/-- The first code of a word is an event or step code (R100). -/
def isEvtWord (w : Nat) : Bool :=
  [evTickCode, evTxdoneCode, evRxdoneCode, evCaddoneCode, stepCCode, stepHCode, stepXCode].contains (BitVec.ofNat 8 w)

/-- What the decoder reads at the start of a record word's bytes, with `zeros` zero bytes above. -/
def parseWord (zeros nbits w : Nat) : Option (Instr × Bytes) :=
  if isEvtWord w then parseEvt (paddedWord zeros nbits w) else parseCmd (paddedWord zeros nbits w)

/-- The bytes the decoder consumed of a record word with `zeros` zero bytes above; `none` where it reads nothing. -/
def consumedBytes (zeros nbits w : Nat) : Option Bytes :=
  match parseWord zeros nbits w with
  | some (.illegal _, _) => some (bytesOfWord ((nbits + 7) / 8) (w % 2 ^ nbits))
  | some (_, left) => some ((paddedWord zeros nbits w).take ((paddedWord zeros nbits w).length - left.length))
  | none => none

/-- The bytes the record of a word takes: those the decoder consumed (all of the word for what it does not read). Few
zeros are tried first, so that evaluation stays short; a record that is whole with few is the same with more. -/
def recordBytes (nbits w : Nat) : Bytes :=
  match consumedBytes shortRecord nbits w with
  | some r => r
  | none =>
    match consumedBytes longestRecord nbits w with
    | some r => r
    | none => bytesOfWord ((nbits + 7) / 8) (w % 2 ^ nbits)

/-- The record of a word: a command record, or an event record where its first code is one. -/
def recordOfWord (nbits w : Nat) : Record :=
  if isEvtWord w then .evt (recordBytes nbits w) else .cmd (recordBytes nbits w)

/-- The instruction the decoder reads from a word of the opcode table, with the default parameters: the table gives
the frame rows for the default `ACK_MASK` (R112). -/
def decodeTableWord (nbits w : Nat) : Option Instr :=
  if isFrameWord nbits then decode {} (.frame (frameOfWord w)) else decode {} (.record (recordOfWord nbits w))

end Sys2Proof
end

