-- ==== Sys2Proof/Machine/State.lean ====
section
/-! DEFINITION. The state of the block (10_state.md R20 to R46), the reasons a step can stop, and the state right
after block reset (R45, R270). -/

namespace Sys2Proof.Machine

open Sys2Proof

/-- The five values of `S.MODE` (R26, R140). -/
inductive Mode where
  | sleep
  | idle
  | channelListen
  | receiving
  | transmitting
deriving DecidableEq, Repr

/-- Who wrote `R.FIFO` last (R36). -/
inductive FifoSrc where
  | none
  | rx
  | tx
deriving DecidableEq, Repr

/-- The status codes of R240. -/
inductive Status where
  | ok
  | frameTooLarge
  | frameTooShort
  | checksumInvalid
  | addressMismatch
  | sendTimeout
  | transmitTimeout
  | busy
  | closed
  | illegalCommand
  | cipherLength
deriving DecidableEq, Repr

/-- The accesses to the radio port, in the forms R65 lists (observable, R11). -/
inductive PortAccess where
  | readIrqf
  | clearTxDone
  | clearRxDone
  | clearCad
  | readRxNb
  | readClearCrc
  | readRssi
  | readSnr
  | writeMode (m : Mode)
  | fifoRead (n : Nat)
  | fifoWrite (bytes : Bytes)
  | assertReset
  | configurePreset (preset power : Byte)
deriving DecidableEq, Repr

/-- `R.IRQF`, four named flags (R33). -/
structure IrqFlags where
  txDone : Bool
  rxDone : Bool
  cadDone : Bool
  cadDetected : Bool
deriving DecidableEq, Repr

/-- The session registers `S.*` (R21 to R31). -/
structure Session where
  isOpen : Bool
  closing : Bool
  thisAddr : Byte
  ackEn : Bool
  cipherEn : Bool
  txPower : Byte
  preset : Byte
  cadTimeout : Ticks
  retryTimeout : Ticks
  wpsTimeout : Ticks
  mode : Mode
  lastId : Byte
  pendValid : Bool
  pendTo : Byte
  pendId : Byte
  pendLeft : Byte
  pendDeadline : Nat
  faultCipherLength : Bool
  txDone : Bool
  ackOk : Bool
  cbEn : Bool
deriving DecidableEq, Repr

/-- The radio port `R.*` (R33 to R38). -/
structure Radio where
  irqf : IrqFlags
  rxNb : Byte
  rssiRaw : Byte
  snrRaw : Byte
  fifo : Bytes
  fifoSrc : FifoSrc
  crcValid : Bool
  txInflight : Bool
  txBytes : Bytes
  cadInflight : Bool
  irqPend : Bool
deriving DecidableEq, Repr

/-- The gate's registers, one set per sequencer: `FRAME`, `T0`, `WDL`, `BDL` (R39, R40, R200). -/
structure GateRegs where
  frame : Bytes
  t0 : Nat
  wdl : Nat
  bdl : Nat
deriving DecidableEq, Repr

/-- The caller sequencer's registers `C.*` (R39). -/
structure CallerSeq where
  seq : CPhase
  op : COp
  gate : GateRegs
  dl : Nat
deriving DecidableEq, Repr

/-- The handler sequencer's registers `H.*` (R40). -/
structure HandlerSeq where
  seq : HPhase
  txf : Bool
  rxf : Bool
  len : Byte
  buf : Bytes
  crc : Bool
  rssi : Byte
  snr : Byte
  hdr : Header
  msg : Bytes
  gate : GateRegs
deriving DecidableEq, Repr

/-- The whole state. `resp`, `deliv`, `air` are the output traces of R41, oldest record first; `port` is the
sequence of radio-port accesses of R11; `script` holds the records still to be taken, the schedule and the
host's commands among them (R44, R100); `now` and every deadline are natural numbers that never wrap (R42, R106);
`draws` counts the draws taken (the model's own, log entry 6). `params` holds the parameters of R4 that have a
default: an argument of the step relation (R44), which stands here because a step has no other argument; no step
writes it (log entries 2, 3). -/
structure State where
  params : Params
  session : Session
  radio : Radio
  c : CallerSeq
  h : HandlerSeq
  now : Nat
  resp : List Bytes
  deliv : List Bytes
  air : List Bytes
  port : List PortAccess
  script : List Record
  draws : Nat
deriving DecidableEq, Repr

/-- The faults that stop the machine. DOC0's errors and the spec's fault bit never stop it (R9, R283). -/
inductive Fault where
  /-- Raised by `G_FIFO` when the frame register holds a string that `FifoWrite` is not given for: fewer than
  `HDR_LEN` or more than `FIFO_CAP` bytes (R64; log entry 15). Safe: no run reaches it, every frame comes from `Encode`. -/
  | fifoLength (n : Nat)
deriving DecidableEq, Repr

/-- The refusals: there is no step to take. -/
inductive Refusal where
  /-- Raised by an arm of `exec` that gives its instruction no meaning. Safe: the machine stops. -/
  | notModelled (mnemonic : String)
  /-- Raised by a sequencer phase whose enabling condition is false, and by `STEP.C` in `C_IDLE`: the sequencer
  holds, it has no enabled step (R7, R9; log entry 9). Safe: the record is an error of the script (R100). -/
  | hold
  /-- Raised by a `RADIO` event or by `STEP.X` when its enabling condition is false (R146, R225, R242).
  Safe: the record is an error of the script (R100; log entry 10). -/
  | notEnabled
  /-- Raised by a phase, interrupt-condition or frame row when no register selects it (R112; log entry 9). Safe. -/
  | notSelected
  /-- Raised by `step` when the script has no further record (R283; log entry 5). Safe: the run has ended. -/
  | noRecord
  /-- Raised by `step` on bytes that are no record of R98 or R100, and by an `EV.RXDONE` of more than 255 bytes.
  Safe: the port delivers whole records (R102), an event record is the script's (R100; log entry 12). -/
  | malformedRecord
deriving DecidableEq, Repr

/-- The gate's registers at block reset (unspecified in R45; log entry 1). -/
def GateRegs.reset : GateRegs := { frame := [], t0 := 0, wdl := 0, bdl := 0 }

/-- `S.*` at block reset: `OPEN`, `CLOSING` and `FAULT` are 0 (R45); the rest is unspecified there and has the
values of log entry 1. -/
def Session.reset : Session where
  isOpen := false
  closing := false
  thisAddr := 0
  ackEn := false
  cipherEn := false
  txPower := 0
  preset := 0
  cadTimeout := 0
  retryTimeout := 0
  wpsTimeout := 0
  mode := .sleep
  lastId := 0
  pendValid := false
  pendTo := 0
  pendId := 0
  pendLeft := 0
  pendDeadline := 0
  faultCipherLength := false
  txDone := false
  ackOk := false
  cbEn := false

/-- `R.*` at block reset: `IRQ_PEND` is 0 (R45); the rest is unspecified there (log entry 1). -/
def Radio.reset : Radio where
  irqf := { txDone := false, rxDone := false, cadDone := false, cadDetected := false }
  rxNb := 0
  rssiRaw := 0
  snrRaw := 0
  fifo := []
  fifoSrc := .none
  crcValid := false
  txInflight := false
  txBytes := []
  cadInflight := false
  irqPend := false

/-- The block right after power-on, before any `INIT` (R45, R270): closed, both sequencers idle, no fault bit,
no interrupt latched, traces empty, no record placed; the parameters at their defaults (R4). -/
def State.reset : State where
  params := {}
  session := Session.reset
  radio := Radio.reset
  c := { seq := .idle, op := .send, gate := GateRegs.reset, dl := 0 }
  h :=
    { seq := .idle, txf := false, rxf := false, len := 0, buf := [], crc := false, rssi := 0, snr := 0,
      hdr := ⟨0, 0, 0, 0⟩, msg := [], gate := GateRegs.reset }
  now := 0
  resp := []
  deliv := []
  air := []
  port := []
  script := []
  draws := 0

end Sys2Proof.Machine
end

