-- ==== Sys2Proof/Machine/Operands.lean ====
section
/-! DEFINITION. Operand assembly and arithmetic: status and mode codes (R26, R240), header and configuration operands
(R98, R101, R102), the arithmetic of identifiers, lengths and time (R104 to R107). -/

namespace Sys2Proof.Machine

open Sys2Proof

/-- The byte of a status (R240). -/
def statusCode : Status → Byte
  | .ok => 0x00
  | .frameTooLarge => 0x01
  | .frameTooShort => 0x02
  | .checksumInvalid => 0x03
  | .addressMismatch => 0x04
  | .sendTimeout => 0x05
  | .transmitTimeout => 0x06
  | .busy => 0x07
  | .closed => 0x08
  | .illegalCommand => 0x09
  | .cipherLength => 0x0A

/-- The three-bit value of `S.MODE` (R26). -/
def modeCode : Mode → BitVec 3
  | .sleep => 0
  | .idle => 1
  | .channelListen => 2
  | .receiving => 3
  | .transmitting => 4

/-- The receive-capable modes (R146). -/
def receiveCapable (m : Mode) : Bool := decide (m = .idle ∨ m = .receiving)

/-- A natural number as a count byte. -/
def countByte (n : Nat) : Byte := BitVec.ofNat 8 n

/-- The four bytes of a header on the wire (R90, R124). -/
def headerBytes (h : Header) : Bytes := [h.dst, h.src, h.id, h.flags]

/-- The header `SEND` and `SENDW` build: `from` is the session's address (R92, R101). -/
def ownHeader (s : State) (dst id flags : Byte) : Header := ⟨dst, s.session.thisAddr, id, flags⟩

/-- `cfg[0]`, the operand of `S.ACK_EN` (R98). -/
def cfgAck (cfg : Byte) : Bool := cfg.getLsbD 0

/-- `cfg[1]`, the operand of `S.CIPHER_EN` (R98). -/
def cfgCipher (cfg : Byte) : Bool := cfg.getLsbD 1

/-- `cfg[7:2]`, which must be 0 (R98). -/
def cfgReserved (cfg : Byte) : Byte := cfg >>> 2

/-- The operands of `INIT` that R102 calls illegal. -/
def initIllegal (addr cfg : Byte) : Bool :=
  decide (addr = Config.broadcast) || decide (cfgReserved cfg ≠ 0) || (cfgCipher cfg && !Config.cipherPresent)

/-- The operand of `SETCB` that R102 calls illegal. -/
def setcbIllegal (en : Byte) : Bool := decide (1 < en.toNat)

/-- The identifier after `id`, modulo 256 (R104). -/
def nextId (id : Byte) : Byte := id + 1

/-- The cipher of the session: present exactly when `S.CIPHER_EN = 1` (R120). -/
def sessionCipher (s : State) : Option Cipher := if s.session.cipherEn then some Config.cipher else none

/-- The padding length `pad(n)` (R105). -/
def padLen : Option Cipher → Nat → Nat
  | none, _ => 0
  | some c, n => (c.B - n % c.B) % c.B

/-- The encoded length `enc_len(n)` (R105). -/
def encLen (c : Option Cipher) (n : Nat) : Nat := Config.hdrLen + n + padLen c n

/-- The real time since `NOW` was 0, in milliseconds: `TICK` for each tick (R4, R42). No rule reads it. -/
def realTime (s : State) : Rat := s.now * Config.tick

/-- A deadline has passed (R106). -/
def expired (now deadline : Nat) : Bool := decide (deadline ≤ now)

end Sys2Proof.Machine
end

