-- ==== Sys2Proof/Machine/Flags.lean ====
section
/-! DEFINITION. The flags: the radio's interrupt flags and their clearing writes (R33, R65, R248), the session's two
signals (R30) and its sticky fault bit (R29). -/

namespace Sys2Proof.Machine

open Sys2Proof

/-- Record one access of the radio port (R11, log entry 8). -/
def access (a : PortAccess) (s : State) : State := { s with port := s.port ++ [a] }

/-- Replace the radio's interrupt flags. -/
def setIrqf (f : IrqFlags) (s : State) : State := { s with radio := { s.radio with irqf := f } }

/-- Clear `tx_done`, by the clearing write (R163). -/
def clearTxDoneFlag (s : State) : State :=
  access .clearTxDone (setIrqf { s.radio.irqf with txDone := false } s)

/-- Clear `rx_done`, by the clearing write (R164). -/
def clearRxDoneFlag (s : State) : State :=
  access .clearRxDone (setIrqf { s.radio.irqf with rxDone := false } s)

/-- Clear `cad_done` and `cad_detected`, by one clearing write (R141, R203). -/
def clearCadFlags (s : State) : State :=
  access .clearCad (setIrqf { s.radio.irqf with cadDone := false, cadDetected := false } s)

/-- `S.TX_DONE`, the level observed by `WAITSENT` (R30). -/
def setTxDone (v : Bool) (s : State) : State := { s with session := { s.session with txDone := v } }

/-- `S.ACK_OK`, the wake-up of a blocked `SENDW` (R30). -/
def setAckOk (v : Bool) (s : State) : State := { s with session := { s.session with ackOk := v } }

/-- `fault(CipherLength)`: set the sticky bit (R7, R29). -/
def faultCipherLength (s : State) : State := { s with session := { s.session with faultCipherLength := true } }

end Sys2Proof.Machine
end

