-- ==== Sys2Proof/Machine/Ops.lean ====
section
/-! DEFINITION. The named operations: responses and the acceptance tests (R97, R241), draws (R7), the FIFO
primitives (R64), the mode transition (R141), and the interrupt: raising a condition, entering the handler and
leaving it (R243, R250, R251). -/

namespace Sys2Proof.Machine

open Sys2Proof

/-- What an instruction answers. -/
abbrev Answer := Host.Outcome State Fault Refusal

/-- Take the step when its condition holds, else answer that there is none. -/
def stepIf (enabled : Bool) (why : Refusal) (next : State) : Answer := if enabled then .next next else .refused why

/-! ## Responses and acceptance -/

/-- `respond(code, data)`: append `[op, status] ++ data` to `RESP` (R97). -/
def respond (op : Byte) (code : Status) (data : Bytes) (s : State) : State :=
  { s with resp := s.resp ++ [op :: statusCode code :: data] }

/-- The tests (3) and (4) of R241: `Closed` while `S.OPEN = 0`, then, for a sequenced command, `Busy` while
`C.SEQ` is not `C_IDLE`; a command that passes gives `run`. -/
def accept (op : Byte) (sequenced : Bool) (s run : State) : State :=
  if !s.session.isOpen then respond op .closed [] s
  else if sequenced && decide (s.c.seq ≠ .idle) then respond op .busy [] s
  else run

/-! ## Draws -/

/-- Draw number `k` as a string of `n` bytes. -/
def freeBytes (k n : Nat) : Bytes := (List.range n).map (Config.freeByte k)

/-- Draw number `k` as a string of any length 0 to 255. -/
def freeString (k : Nat) : Bytes := freeBytes k (Config.freeNat k 0 % (Config.fifoMax + 1))

/-- Draw number `k` as an interval in `[0, BACKOFF_MAX]` (R206). -/
def freeInterval (k : Nat) : Nat := Config.freeNat k 0 % (Config.backoffMax + 1)

/-- Count one draw as taken. -/
def drawn (s : State) : State := { s with draws := s.draws + 1 }

/-! ## The FIFO -/

/-- One byte of the FIFO space: the byte at offset `a`, none past the end (R60, R61). -/
def fifoByte (s : State) (a : Nat) : Option Byte := s.radio.fifo[a]?

/-- The form of the FIFO space: a byte string of at most 255 bytes (R36). A byte string has one form, so equal
contents are equal data. -/
def Memory.wf (s : State) : Bool := decide (s.radio.fifo.length ≤ Config.fifoMax)

/-- The lengths `FifoWrite` is given for (R64). -/
def fifoWritable (par : Params) (b : Bytes) : Bool := decide (Config.hdrLen ≤ b.length ∧ b.length ≤ par.fifoCap)

/-- The bytes of a transmission in flight become any bytes (R64, R66 case (b)). -/
def spoilTransmission (s : State) : State :=
  if s.radio.txInflight then drawn { s with radio := { s.radio with txBytes := freeString s.draws } } else s

/-- `FifoWrite(bytes)` (R64). -/
def fifoWrite (b : Bytes) (s : State) : State :=
  spoilTransmission
    (access (.fifoWrite b) { s with radio := { s.radio with fifo := b, fifoSrc := .tx } })

/-- The content `FifoRead(n)` can return is the deposited frame's (R64); otherwise it is any bytes (R66 case (a)). -/
def fifoReadable (n : Nat) (s : State) : Bool := decide (s.radio.fifoSrc = .rx ∧ n ≤ s.radio.fifo.length)

/-- The bytes `FifoRead(n)` returns (R64). -/
def fifoReadBytes (n : Nat) (s : State) : Bytes :=
  if fifoReadable n s then s.radio.fifo.take n else freeBytes s.draws n

/-- The state after `FifoRead(n)`: the FIFO keeps its content; a draw may have been taken (R64). -/
def fifoReadState (n : Nat) (s : State) : State :=
  access (.fifoRead n) (if fifoReadable n s then s else drawn s)

/-! ## The mode transition (R141) -/

/-- Leaving a mode cancels the transmission or detection in flight. -/
def cancelInflight (m : Mode) (s : State) : State :=
  { s with
    radio :=
      { s.radio with
        txInflight := s.radio.txInflight && decide (m = .transmitting)
        cadInflight := s.radio.cadInflight && decide (m = .channelListen) } }

/-- The trigger: latch the FIFO's frame (any bytes when the block staged none) and clear `S.TX_DONE`. -/
def latchTransmission (s : State) : State :=
  setTxDone false
    (if s.radio.fifoSrc = .tx then
      { s with radio := { s.radio with txBytes := s.radio.fifo, txInflight := true } }
    else
      drawn { s with radio := { s.radio with txBytes := freeString s.draws, txInflight := true } })

/-- Start a channel detection. -/
def startDetection (s : State) : State :=
  let t := clearCadFlags s
  { t with radio := { t.radio with cadInflight := true } }

/-- What entering a mode does besides writing it. -/
def enterMode (m : Mode) (s : State) : State :=
  match m with
  | .sleep => s
  | .idle => s
  | .channelListen => startDetection s
  | .receiving => s
  | .transmitting => latchTransmission s

/-- `SetMode(m)`, the sole writer of `S.MODE` (R141, R149). -/
def setMode (m : Mode) (s : State) : State :=
  let t := enterMode m (cancelInflight m s)
  access (.writeMode m) { t with session := { t.session with mode := m } }

/-! ## The interrupt -/

/-- Raise a condition: stand its flags in `R.IRQF` and set the edge latch (R38, R243). -/
def raiseIrq (f : IrqFlags) (s : State) : State :=
  { s with radio := { s.radio with irqf := f, irqPend := true } }

/-- Taking the interrupt: the handler's entry. Nothing is saved, the mode and the caller sequencer keep their
values, the latch is cleared and the handler starts at `H_FLAGS` (R160, R250). -/
def enterHandler (s : State) : State :=
  { s with radio := { s.radio with irqPend := false }, h := { s.h with seq := .flags } }

/-- The next phase of the handler. -/
def setHPhase (p : HPhase) (s : State) : State := { s with h := { s.h with seq := p } }

/-- The next phase of the caller sequencer. -/
def setCPhase (p : CPhase) (s : State) : State := { s with c := { s.c with seq := p } }

/-- Return from the interrupt: `H.SEQ` returns to `H_IDLE`, nothing is restored (R251). -/
def leaveHandler (s : State) : State := setHPhase .idle s

/-- `drop(reason)`: end the handling of a received frame; the label appears on no port and in no register (R7, R171). -/
def dropFrame (_reason : Status) (s : State) : State := leaveHandler s

/-! ## The gate's registers (R200) -/

/-- The sequencer's gate registers. -/
def gateRegs (a : Sequencer) (s : State) : GateRegs :=
  match a with
  | .c => s.c.gate
  | .h => s.h.gate

/-- Write the sequencer's gate registers. -/
def setGateRegs (a : Sequencer) (g : GateRegs) (s : State) : State :=
  match a with
  | .c => { s with c := { s.c with gate := g } }
  | .h => { s with h := { s.h with gate := g } }

/-- The sequencer stands in gate phase `p`. -/
def inGate (a : Sequencer) (p : GatePhase) (s : State) : Bool :=
  match a with
  | .c => decide (s.c.seq = .gate p)
  | .h => decide (s.h.seq = .gate p)

/-- The sequencer's next phase is gate phase `p`. -/
def setGatePhase (a : Sequencer) (p : GatePhase) (s : State) : State :=
  match a with
  | .c => setCPhase (.gate p) s
  | .h => setHPhase (.gate p) s

/-- The continuation of the gate's user: `C_AFTER` or `H_DELIVER` (R200, R208). -/
def leaveGate (a : Sequencer) (s : State) : State :=
  match a with
  | .c => setCPhase .after s
  | .h => setHPhase .deliver s

/-! ## Fetching -/

/-- Take the next record of the script and decode it: the instruction, and the state with the record consumed. -/
def fetch (s : State) : Except Refusal (Instr × State) :=
  match s.script with
  | [] => .error .noRecord
  | r :: later =>
    match decode s.params (.record r) with
    | none => .error .malformedRecord
    | some i => .ok (i, { s with script := later })

/-- Place a record as the next one. -/
def placeRecord (r : Record) (s : State) : State := { s with script := r :: s.script }

/-- Place a received frame where the handler's filter takes it, with what the filter asks of it: a good CRC, its
length, and the session's address for a unicast `to` (R165, R166); the next record is `STEP.H`. -/
def placeFrame (f : Bytes) (s : State) : State :=
  let addr := f.headD Config.broadcast
  placeRecord (.evt [stepHCode])
    { s with
      session := { s.session with thisAddr := if addr = Config.broadcast then s.session.thisAddr else addr }
      h := { s.h with seq := .filter, buf := f, len := countByte f.length, crc := true } }

/-- Place a word of the opcode table so that the next step runs it. -/
def placeWord (nbits w : Nat) (s : State) : State :=
  if isFrameWord nbits then placeFrame (frameOfWord w) s else placeRecord (recordOfWord nbits w) s

end Sys2Proof.Machine
end

