-- ==== Sys2Proof/Machine/Codec.lean ====
section
/-! DEFINITION. The Frame Codec: `Encode`, `Decode` and the commands `ENCODE`, `DECODE` (40_frame_codec.md). -/

namespace Sys2Proof.Machine

open Sys2Proof

/-- The body of a frame: the payload, or `ENC` of the payload followed by its padding (R121, R122). -/
def encodeBody (c : Option Cipher) (fill payload : Bytes) : Bytes :=
  match c with
  | none => payload
  | some k => k.enc (payload ++ fill)

/-- `Encode(h, p)` with `FIFO_CAP` and the padding bytes as arguments; `none` is `FrameTooLarge` (R121, R123, R124). -/
def encodeWith (cap : Nat) (c : Option Cipher) (fill : Bytes) (h : Header) (payload : Bytes) : Option Bytes :=
  if encLen c payload.length ≤ cap then some (headerBytes h ++ encodeBody c fill payload) else none

/-- `Encode(h, p)` in a session: the padding is a draw of `pad(n)` bytes (R121, R122). -/
def encodeFrame (h : Header) (payload : Bytes) (s : State) : Option Bytes :=
  encodeWith s.params.fifoCap (sessionCipher s) (freeBytes s.draws (padLen (sessionCipher s) payload.length)) h payload

/-- The draw of an `Encode`: taken only with a cipher (R121). -/
def encodeDrawn (s : State) : State := if s.session.cipherEn then drawn s else s

/-- What `Decode` returns (R125). -/
inductive Decoded where
  | frame (h : Header) (payload : Bytes)
  | tooShort
  | cipherLength
deriving DecidableEq, Repr

/-- The payload of a frame in the clear; `none` is `CipherLength`, and then `DEC` is not called (R125, R127). The
padding is not removed (R131). -/
def openPayload (c : Option Cipher) (body : Bytes) : Option Bytes :=
  match c with
  | none => some body
  | some k => if body.length % k.B = 0 then some (k.dec body) else none

/-- `Decode(s)` (R125, R126, R127). -/
def decodeWith (c : Option Cipher) (f : Bytes) : Decoded :=
  match splitHeader f with
  | none => .tooShort
  | some (h, body) =>
    match openPayload c body with
    | none => .cipherLength
    | some m => .frame h m

/-- The response of `DECODE` (R129). -/
def respondDecoded (d : Decoded) (s : State) : State :=
  match d with
  | .tooShort => respond opDecode .frameTooShort [] s
  | .cipherLength => respond opDecode .cipherLength [] s
  | .frame h m => respond opDecode .ok (headerBytes h ++ countByte m.length :: m) s

/-- `ENCODE dst, src, id, flags, payload` (R128). -/
def execEncode (dst src id flags : Byte) (payload : Bytes) (s : State) : Answer :=
  .next (accept opEncode false s
    (match encodeFrame ⟨dst, src, id, flags⟩ payload s with
    | none => respond opEncode .frameTooLarge [] s
    | some f => respond opEncode .ok (countByte f.length :: f) (encodeDrawn s)))

/-- `DECODE bytes` (R129). -/
def execDecode (bytes : Bytes) (s : State) : Answer :=
  .next (accept opDecode false s (respondDecoded (decodeWith (sessionCipher s) bytes) s))

end Sys2Proof.Machine
end

