-- ==== Sys2Proof/Machine/Reliability.lean ====
section
/-! DEFINITION. The Reliability Layer: `SEND`, `SENDW`, their completion and wait, and the three classes of a
received frame (43_reliability.md). -/

namespace Sys2Proof.Machine

open Sys2Proof

/-! ## The sending half -/

/-- Hand an encoded frame to the caller sequencer's gate (R180, R183). -/
def startCaller (op : COp) (f : Bytes) (s : State) : State :=
  { s with c := { s.c with seq := .gate .start, op := op, gate := { s.c.gate with frame := f } } }

/-- The outstanding-send record, not made for a broadcast (R183). -/
def makeRecord (dst id retries : Byte) (s : State) : State :=
  if dst = Config.broadcast then s
  else
    { s with
      session := { s.session with pendValid := true, pendTo := dst, pendId := id, pendLeft := retries } }

/-- `SEND dst, id, flags, payload`, acceptance (R180). -/
def execSend (dst id flags : Byte) (payload : Bytes) (s : State) : Answer :=
  .next (accept opSend true s
    (match encodeFrame (ownHeader s dst id flags) payload s with
    | none => respond opSend .frameTooLarge [] s
    | some f => startCaller .send f (encodeDrawn s)))

/-- `S.LAST_ID` and the cleared wake-up of an accepted `SENDW` (R183). -/
def useNextId (s : State) : State :=
  setAckOk false { s with session := { s.session with lastId := nextId s.session.lastId } }

/-- `SENDW dst, flags, retries, payload`, acceptance (R183). -/
def execSendw (dst flags retries : Byte) (payload : Bytes) (s : State) : Answer :=
  .next (accept opSendw true s
    (match encodeFrame (ownHeader s dst (nextId s.session.lastId) flags) payload s with
    | none => respond opSendw .frameTooLarge [] s
    | some f =>
      startCaller .sendw f (makeRecord dst (nextId s.session.lastId) retries (useNextId (encodeDrawn s)))))

/-- `C_AFTER` of a `SEND`: it has been handed to the radio (R181). -/
def execCAfterSend (s : State) : Answer :=
  stepIf (decide (s.c.seq = .after ∧ s.c.op = .send)) .notSelected (setCPhase .idle (respond opSend .ok [] s))

/-- The frame in `C.FRAME` is addressed to everyone (R184). -/
def callerBroadcast (s : State) : Bool := decide (s.c.gate.frame.head? = some Config.broadcast)

/-- `C_AFTER` of a `SENDW`: a broadcast succeeds at once, else the wait for the ACK starts here (R184). -/
def execCAfterSendw (s : State) : Answer :=
  stepIf (decide (s.c.seq = .after ∧ s.c.op = .sendw)) .notSelected
    (if callerBroadcast s then setCPhase .idle (respond opSendw .ok [] s)
    else
      setCPhase .wWait
        { s with session := { s.session with pendDeadline := s.now + s.session.retryTimeout.toNat } })

/-- The wake-up consumed (R185). -/
def ackArrived (s : State) : State := setCPhase .idle (respond opSendw .ok [] (setAckOk false s))

/-- A re-send: the same frame, one re-send fewer (R185, R186). -/
def resend (s : State) : State :=
  setCPhase (.gate .start) { s with session := { s.session with pendLeft := s.session.pendLeft - 1 } }

/-- Giving up: the record is cleared (R185, R186). -/
def giveUp (s : State) : State :=
  setCPhase .idle
    (respond opSendw .sendTimeout [] { s with session := { s.session with pendValid := false } })

/-- `W_WAIT`: the signal wins over the expiry; before both the sequencer holds (R185). -/
def execWWait (s : State) : Answer :=
  if s.c.seq ≠ .wWait then .refused .notSelected
  else if s.session.ackOk then .next (ackArrived s)
  else
    stepIf (expired s.now s.session.pendDeadline) .hold
      (if s.session.isOpen && decide (0 < s.session.pendLeft.toNat) then resend s else giveUp s)

/-! ## The receiving half -/

/-- The match of the outstanding-send record: `from` and `id` for equality, nothing else (R189). -/
def ackMatches (src id : Byte) (s : State) : Bool :=
  s.session.pendValid && decide (src = s.session.pendTo) && decide (id = s.session.pendId)

/-- `AckMatch(from, id)` (R189). -/
def ackMatch (src id : Byte) (s : State) : State :=
  if ackMatches src id s then setAckOk true { s with session := { s.session with pendValid := false } } else s

/-- Keep the decoded packet in `H.HDR` and `H.MSG` (R165). -/
def keepPacket (h : Header) (m : Bytes) (s : State) : State := { s with h := { s.h with hdr := h, msg := m } }

/-- A frame whose payload cannot be decrypted: the fault bit, and the frame is discarded (R127, R167). -/
def cipherLengthDrop (s : State) : State := dropFrame .cipherLength (faultCipherLength s)

/-- The auto-ACK: the ACK frame in `H.FRAME`, then the handler's own gate (R188, R191). `Encode` of an empty
payload cannot fail. -/
def startAutoAck (h : Header) (s : State) : State :=
  match encodeFrame (ownHeader s h.src h.id s.params.ackMask) [] s with
  | none => dropFrame .frameTooLarge s
  | some f =>
    let t := encodeDrawn s
    { t with h := { t.h with seq := .gate .start, gate := { t.h.gate with frame := f } } }

/-- `FRAME.ACK`: consumed whether it matches or not, never delivered, never acknowledged (R188, R189). -/
def execFrameAck (dst src id flags : Byte) (payload : Bytes) (s : State) : Answer :=
  stepIf (decide (s.h.seq = .filter)) .notSelected
    (match openPayload (sessionCipher s) payload with
    | none => cipherLengthDrop s
    | some m => leaveHandler (ackMatch src id (keepPacket ⟨dst, src, id, flags⟩ m s)))

/-- `FRAME.DATA.BCAST`: delivered without an ACK (R190). -/
def execFrameDataBcast (src id flags : Byte) (payload : Bytes) (s : State) : Answer :=
  stepIf (decide (s.h.seq = .filter)) .notSelected
    (match openPayload (sessionCipher s) payload with
    | none => cipherLengthDrop s
    | some m => setHPhase .deliver (keepPacket ⟨Config.broadcast, src, id, flags⟩ m s))

/-- `FRAME.DATA.UCAST`: acknowledged when `S.ACK_EN = 1` (R191), else delivered without an ACK (R190). -/
def execFrameDataUcast (dst src id flags : Byte) (payload : Bytes) (s : State) : Answer :=
  stepIf (decide (s.h.seq = .filter)) .notSelected
    (match openPayload (sessionCipher s) payload with
    | none => cipherLengthDrop s
    | some m =>
      if s.session.ackEn then startAutoAck ⟨dst, src, id, flags⟩ (keepPacket ⟨dst, src, id, flags⟩ m s)
      else setHPhase .deliver (keepPacket ⟨dst, src, id, flags⟩ m s))

end Sys2Proof.Machine
end

