-- ==== Sys2Proof/Machine/Bridge.lean ====
section
/-! DEFINITION. The Interrupt Bridge: the handler's phases and the two conditions it dispatches
(42_interrupt_bridge.md, R243). -/

namespace Sys2Proof.Machine

open Sys2Proof

/-- `H_IDLE`: an invocation starts when an edge is latched and the session is open, else the handler holds (R160). -/
def execHIdle (s : State) : Answer :=
  if s.h.seq ≠ .idle then .refused .notSelected
  else stepIf (s.radio.irqPend && s.session.isOpen) .hold (enterHandler s)

/-- The arm chosen on a snapshot: packet sent first (R161, R162). -/
def armOf (f : IrqFlags) : HPhase := if f.txDone then .sent else if f.rxDone then .read else .idle

/-- `H_FLAGS`: one snapshot of the two dispatched flags (R161). -/
def execHFlags (s : State) : Answer :=
  stepIf (decide (s.h.seq = .flags)) .notSelected
    (access .readIrqf
      { s with
        h := { s.h with txf := s.radio.irqf.txDone, rxf := s.radio.irqf.rxDone, seq := armOf s.radio.irqf } })

/-- Packet sent: clear the flag, go to `Idle`, set the signal, then the other arm of the snapshot (R162, R163). -/
def servePacketSent (s : State) : State :=
  setHPhase (if s.h.rxf then .read else .idle) (setTxDone true (setMode .idle (clearTxDoneFlag s)))

/-- `H_SENT` (R163). -/
def execHSent (s : State) : Answer := stepIf (decide (s.h.seq = .sent)) .notSelected (servePacketSent s)

/-- `IRQ.SENT`: the condition `tx_done`, handled by the packet-sent arm (R163, R243). -/
def execIrqSent (s : State) : Answer :=
  stepIf (s.radio.irqf.txDone && decide (s.h.seq = .sent)) .notSelected (servePacketSent s)

/-- What the handler keeps of a reception: length, bytes, CRC verdict, signal quality (R164). -/
def captureFrame (s : State) : State :=
  let n := s.radio.rxNb
  let t := fifoReadState n.toNat (access .readRxNb s)
  access .readSnr (access .readRssi (access .readClearCrc
    { t with
      radio := { t.radio with crcValid := false }
      h :=
        { t.h with
          len := n
          buf := fifoReadBytes n.toNat s
          crc := s.radio.crcValid
          rssi := s.radio.rssiRaw
          snr := s.radio.snrRaw
          seq := .filter } }))

/-- Packet received: clear the flag, read the radio, one micro-step (R164). -/
def servePacketReceived (s : State) : State := captureFrame (clearRxDoneFlag s)

/-- `H_READ` (R164). -/
def execHRead (s : State) : Answer := stepIf (decide (s.h.seq = .read)) .notSelected (servePacketReceived s)

/-- `IRQ.RECV`: the condition `rx_done`, handled by the packet-received arm (R164, R243). -/
def execIrqRecv (s : State) : Answer :=
  stepIf (s.radio.irqf.rxDone && decide (s.h.seq = .read)) .notSelected (servePacketReceived s)

/-- The address test: `to` is this session's address or the broadcast address (R166). -/
def addressed (dst : Byte) (s : State) : Bool := decide (dst = s.session.thisAddr ∨ dst = Config.broadcast)

/-- A frame that passed the filter, by its class (R93, R188). -/
def dispatchFrame (h : Header) (payload : Bytes) (s : State) : Answer :=
  match classOf s.params h with
  | .ack => execFrameAck h.dst h.src h.id h.flags payload s
  | .dataBcast => execFrameDataBcast h.src h.id h.flags payload s
  | .dataUcast => execFrameDataUcast h.dst h.src h.id h.flags payload s

/-- `H_FILTER`: CRC, length and address tests in this order, then the frame's class (R165 to R167). -/
def execHFilter (s : State) : Answer :=
  if s.h.seq ≠ .filter then .refused .notSelected
  else if !s.h.crc then .next (dropFrame .checksumInvalid s)
  else if s.h.len.toNat < Config.hdrLen then .next (dropFrame .frameTooShort s)
  else
    match splitHeader s.h.buf with
    | none => .next (dropFrame .frameTooShort s)
    | some (h, payload) =>
      if addressed h.dst s then dispatchFrame h payload s else .next (dropFrame .addressMismatch s)

/-- The delivery record of the packet in `H.HDR`, `H.MSG` (R99). -/
def deliveryRecord (s : State) : Bytes :=
  [s.h.hdr.src, s.h.hdr.dst, s.h.hdr.id, s.h.hdr.flags, countByte s.h.msg.length] ++ s.h.msg ++ [s.h.rssi, s.h.snr]

/-- `H_DELIVER`: the record goes out when a callback is registered; the invocation ends (R168). -/
def execHDeliver (s : State) : Answer :=
  stepIf (decide (s.h.seq = .deliver)) .notSelected
    (leaveHandler (if s.session.cbEn then { s with deliv := s.deliv ++ [deliveryRecord s] } else s))

end Sys2Proof.Machine
end

