-- ==== Sys2Proof/Machine/Gate.lean ====
section
/-! DEFINITION. The Channel Access Controller: the gate's seven phases, run by sequencer `a` on its own registers
(44_channel_access.md), and the CAD condition it polls (R203, R243). -/

namespace Sys2Proof.Machine

open Sys2Proof

/-- `G_START` (R201). -/
def execGStart (a : Sequencer) (s : State) : Answer :=
  stepIf (inGate a .start s) .notSelected
    (setGatePhase a .cad (setGateRegs a { gateRegs a s with t0 := s.now } s))

/-- `G_CAD` (R202). -/
def execGCad (a : Sequencer) (s : State) : Answer :=
  stepIf (inGate a .cad s) .notSelected
    (setGatePhase a .poll
      (setGateRegs a { gateRegs a s with wdl := s.now + Config.cadWindow } (setMode .channelListen s)))

/-- The phase after a report: `G_BUSY` when activity was detected, else `G_FIFO` (R203). -/
def afterReport (detected : Bool) : GatePhase := if detected then .busy else .fifo

/-- The gate takes the report that stands in `R.IRQF`: both CAD flags are cleared (R203). -/
def takeReport (a : Sequencer) (s : State) : State :=
  setGatePhase a (afterReport s.radio.irqf.cadDetected) (clearCadFlags (access .readIrqf s))

/-- `IRQ.CAD`: the condition `cad_done`, handled inline by the gate that polls it, never dispatched (R203, R243). -/
def execIrqCad (a : Sequencer) (s : State) : Answer :=
  stepIf (s.radio.irqf.cadDone && inGate a .poll s) .notSelected (takeReport a s)

/-- `G_POLL`: the report, else the end of the window; before both the sequencer holds (R203). -/
def execGPoll (a : Sequencer) (s : State) : Answer :=
  if !inGate a .poll s then .refused .notSelected
  else if s.radio.irqf.cadDone then .next (takeReport a s)
  else stepIf (expired s.now (gateRegs a s).wdl) .hold (setGatePhase a .fifo (access .readIrqf s))

/-- The `cad_timeout` bound, counted from `G_START` (R204). -/
def gateBoundReached (a : Sequencer) (s : State) : Bool :=
  decide (s.session.cadTimeout.toNat ≤ s.now - (gateRegs a s).t0)

/-- `G_BUSY`: proceed to transmit at the bound, else back off for a drawn interval (R204, R206). -/
def execGBusy (a : Sequencer) (s : State) : Answer :=
  stepIf (inGate a .busy s) .notSelected
    (if gateBoundReached a s then setGatePhase a .fifo s
    else
      drawn
        (setGatePhase a .backoff (setGateRegs a { gateRegs a s with bdl := s.now + freeInterval s.draws } s)))

/-- `G_BACKOFF` (R205). -/
def execGBackoff (a : Sequencer) (s : State) : Answer :=
  if !inGate a .backoff s then .refused .notSelected
  else stepIf (expired s.now (gateRegs a s).bdl) .hold (setGatePhase a .cad s)

/-- `G_FIFO`: the whole frame is written in one access (R207). -/
def execGFifo (a : Sequencer) (s : State) : Answer :=
  if !inGate a .fifo s then .refused .notSelected
  else if fifoWritable s.params (gateRegs a s).frame then .next (setGatePhase a .trig (fifoWrite (gateRegs a s).frame s))
  else .fault (.fifoLength (gateRegs a s).frame.length)

/-- `G_TRIG`: the hand-off to the radio (R208). -/
def execGTrig (a : Sequencer) (s : State) : Answer :=
  stepIf (inGate a .trig s) .notSelected (leaveGate a (setMode .transmitting s))

end Sys2Proof.Machine
end

