-- ==== Sys2Proof/Machine/SessionControl.lean ====
section
/-! DEFINITION. Session control: `INIT`, `SETCB`, `CLOSE` and its second micro-step, `WAITSENT`, and the answer to an
illegal command (45_session_control.md, R102). -/

namespace Sys2Proof.Machine

open Sys2Proof

/-- `INIT` is refused `Busy` while a session or a sequencer is active (R220, R241). -/
def initBusy (s : State) : Bool :=
  s.session.isOpen || s.session.closing || decide (s.c.seq ≠ .idle) || decide (s.h.seq ≠ .idle)

/-- The session registers after `INIT`: its operands and the table of R45. The fields the table leaves unspecified
are free (log entry 7); `S.FAULT` is unchanged (R272); `S.MODE` is written by `SetMode` afterwards. -/
def initSession (addr cfg power preset : Byte) (cad retry wps : Ticks) (k : Nat) (old : Session) : Session :=
  { old with
    isOpen := true
    closing := false
    thisAddr := addr
    ackEn := cfgAck cfg
    cipherEn := cfgCipher cfg
    txPower := power
    preset := preset
    cadTimeout := cad
    retryTimeout := retry
    wpsTimeout := wps
    lastId := 0
    pendValid := false
    pendTo := Config.freeByte k 0
    pendId := Config.freeByte k 1
    pendLeft := Config.freeByte k 2
    pendDeadline := Config.freeNat k 0
    txDone := true
    ackOk := false
    cbEn := false }

/-- The radio port after the hardware reset that `INIT` asserts (R45, R220); unspecified registers are free. -/
def initRadio (k : Nat) : Radio where
  irqf := { txDone := false, rxDone := false, cadDone := false, cadDetected := false }
  rxNb := 0
  rssiRaw := Config.freeByte k 3
  snrRaw := Config.freeByte k 4
  fifo := []
  fifoSrc := .none
  crcValid := false
  txInflight := false
  txBytes := freeString (k + 1)
  cadInflight := false
  irqPend := false

/-- The session made by an accepted `INIT`: reset line, preset, registers, then `SetMode(Idle)` (R220, R221). -/
def openSession (addr cfg power preset : Byte) (cad retry wps : Ticks) (s : State) : State :=
  let t := access (.configurePreset preset power) (access .assertReset s)
  setMode .idle
    { t with
      session := initSession addr cfg power preset cad retry wps s.draws s.session
      radio := initRadio s.draws
      draws := s.draws + 2 }

/-- `INIT` (R220): the illegal operands first, then `Busy` (R241). -/
def execInit (addr cfg power preset : Byte) (cad retry wps : Ticks) (s : State) : Answer :=
  .next
    (if initIllegal addr cfg then respond opInit .illegalCommand [] s
    else if initBusy s then respond opInit .busy [] s
    else respond opInit .ok [] (openSession addr cfg power preset cad retry wps s))

/-- `SETCB en` (R223): the illegal operand first (R241). -/
def execSetcb (en : Byte) (s : State) : Answer :=
  .next
    (if setcbIllegal en then respond opSetcb .illegalCommand [] s
    else
      accept opSetcb false s
        (respond opSetcb .ok [] { s with session := { s.session with cbEn := decide (en ≠ 0) } }))

/-- `CLOSE`, first micro-step: the interrupt source is disarmed, no response yet (R224). -/
def execClose (s : State) : Answer :=
  .next
    (accept opClose false s
      { s with
        session := { s.session with isOpen := false, closing := true }
        radio := { s.radio with irqPend := false } })

/-- The second micro-step of `CLOSE` is enabled: the handler is idle and the caller sequencer is idle or in a wait
phase (R225). -/
def closeReady (s : State) : Bool :=
  s.session.closing && decide (s.h.seq = .idle) &&
    decide (s.c.seq = .idle ∨ s.c.seq = .wWait ∨ s.c.seq = .sWait)

/-- `STEP.X`, the second micro-step of `CLOSE`: the hardware is released (R225). -/
def execStepX (s : State) : Answer :=
  stepIf (closeReady s) .notEnabled
    (let t := setMode .sleep s
     respond opClose .ok [] { t with session := { t.session with closing := false } })

/-- `WAITSENT`, acceptance (R227). -/
def execWaitsent (s : State) : Answer :=
  .next
    (accept opWaitsent true s
      { s with c := { s.c with op := .waitsent, dl := s.now + s.session.wpsTimeout.toNat, seq := .sWait } })

/-- `S_WAIT`: the signal wins over the expiry; before both the sequencer holds (R227). -/
def execSWait (s : State) : Answer :=
  if s.c.seq ≠ .sWait then .refused .notSelected
  else if s.session.txDone then .next (setCPhase .idle (respond opWaitsent .ok [] s))
  else stepIf (expired s.now s.c.dl) .hold (setCPhase .idle (respond opWaitsent .transmitTimeout [] s))

/-- `ILLEGAL`: answered `[op, IllegalCommand]`, nothing else changes (R102). -/
def execIllegal (op : Byte) (s : State) : Answer := .next (respond op .illegalCommand [] s)

end Sys2Proof.Machine
end

