-- ==== Sys2Proof/Machine/Events.lean ====
section
/-! DEFINITION. The environment's steps `EV.*` (60_exceptions.md R242 to R247) and the step records that let a
sequencer take its micro-step (R100). -/

namespace Sys2Proof.Machine

open Sys2Proof

/-- `EV.TICK`: `CLOCK` steps, always enabled (R247). -/
def execEvTick (s : State) : Answer := .next { s with now := s.now + 1 }

/-- The radio can complete the transmission in flight (R146, R244). -/
def txdoneEnabled (s : State) : Bool :=
  s.session.isOpen && decide (s.session.mode = .transmitting) && s.radio.txInflight

/-- `EV.TXDONE` (R244). -/
def execEvTxdone (s : State) : Answer :=
  stepIf (txdoneEnabled s) .notEnabled
    (raiseIrq { s.radio.irqf with txDone := true }
      { s with air := s.air ++ [s.radio.txBytes], radio := { s.radio with txInflight := false } })

/-- The radio can deposit a frame (R146, R245). -/
def rxdoneEnabled (s : State) : Bool := s.session.isOpen && receiveCapable s.session.mode

/-- The deposit: it replaces what the FIFO holds (R66, R245). -/
def deposit (crcValid : Bool) (rssi snr : Byte) (bytes : Bytes) (r : Radio) : Radio :=
  { r with
    fifo := bytes
    fifoSrc := .rx
    rxNb := countByte bytes.length
    crcValid := crcValid
    rssiRaw := rssi
    snrRaw := snr }

/-- `EV.RXDONE crc_valid, rssi, snr, bytes`, of 0 to 255 bytes whatever `FIFO_CAP` is (R34, R245; log entry 22). -/
def execEvRxdone (crcValid : Bool) (rssi snr : Byte) (bytes : Bytes) (s : State) : Answer :=
  if Config.fifoMax < bytes.length then .refused .malformedRecord
  else
    stepIf (rxdoneEnabled s) .notEnabled
      (raiseIrq { s.radio.irqf with rxDone := true }
        { s with radio := deposit crcValid rssi snr bytes s.radio })

/-- The radio can report the detection in progress (R146, R246). -/
def caddoneEnabled (s : State) : Bool :=
  s.session.isOpen && decide (s.session.mode = .channelListen) && s.radio.cadInflight

/-- `EV.CADDONE detected` (R246). -/
def execEvCaddone (detected : Bool) (s : State) : Answer :=
  stepIf (caddoneEnabled s) .notEnabled
    (raiseIrq { s.radio.irqf with cadDone := true, cadDetected := detected }
      { s with radio := { s.radio with cadInflight := false } })

/-- A gate phase of sequencer `a` (R200). -/
def stepGate (a : Sequencer) (p : GatePhase) (s : State) : Answer :=
  match p with
  | .start => execGStart a s
  | .cad => execGCad a s
  | .poll => execGPoll a s
  | .busy => execGBusy a s
  | .backoff => execGBackoff a s
  | .fifo => execGFifo a s
  | .trig => execGTrig a s

/-- `STEP.C`: `CSEQ` takes the micro-step of the phase in `C.SEQ` (R100); in `C_IDLE` it has none (R43). -/
def execStepC (s : State) : Answer :=
  match s.c.seq, s.c.op with
  | .idle, _ => .refused .hold
  | .gate p, _ => stepGate .c p s
  | .after, .send => execCAfterSend s
  | .after, .sendw => execCAfterSendw s
  | .after, .waitsent => .refused .notSelected
  | .wWait, _ => execWWait s
  | .sWait, _ => execSWait s

/-- `STEP.H`: `HSEQ` takes the micro-step of the phase in `H.SEQ` (R100). -/
def execStepH (s : State) : Answer :=
  match s.h.seq with
  | .idle => execHIdle s
  | .flags => execHFlags s
  | .sent => execHSent s
  | .read => execHRead s
  | .filter => execHFilter s
  | .gate p => stepGate .h p s
  | .deliver => execHDeliver s

end Sys2Proof.Machine
end

