-- ==== Sys2Proof/Machine/RadioMode.lean ====
section
/-! DEFINITION. The Radio State Machine's commands (41_radio_mode.md R142 to R145). -/

namespace Sys2Proof.Machine

open Sys2Proof

/-- A mode command: any state to `m`, answered at once (R140). -/
def modeCommand (op : Byte) (m : Mode) (s : State) : State :=
  accept op false s (respond op .ok [] (setMode m s))

/-- `MODE.IDLE` (R142). -/
def execModeIdle (s : State) : Answer := .next (modeCommand opModeIdle .idle s)

/-- `MODE.RX` (R143). -/
def execModeRx (s : State) : Answer := .next (modeCommand opModeRx .receiving s)

/-- `MODE.TX`: triggers the transmission of what the FIFO holds (R144). -/
def execModeTx (s : State) : Answer := .next (modeCommand opModeTx .transmitting s)

/-- `SLEEP` (R145). -/
def execSleep (s : State) : Answer := .next (modeCommand opSleep .sleep s)

end Sys2Proof.Machine
end

