-- ==== Sys2Proof/Machine/Dispatch.lean ====
section
/-! DEFINITION. One arm per instruction. -/

namespace Sys2Proof.Machine

open Sys2Proof

/-- The meaning of an instruction. -/
def exec (i : Instr) (s : State) : Host.Outcome State Fault Refusal :=
  match i with
  -- commands
  | .send dst id flags payload => Sys2Proof.Machine.execSend dst id flags payload s
  | .sendw dst flags retries payload => Sys2Proof.Machine.execSendw dst flags retries payload s
  | .modeIdle => Sys2Proof.Machine.execModeIdle s
  | .modeRx => Sys2Proof.Machine.execModeRx s
  | .modeTx => Sys2Proof.Machine.execModeTx s
  | .sleep => Sys2Proof.Machine.execSleep s
  | .waitsent => Sys2Proof.Machine.execWaitsent s
  | .close => Sys2Proof.Machine.execClose s
  | .setcb en => Sys2Proof.Machine.execSetcb en s
  | .init addr cfg power preset cad retry wps => Sys2Proof.Machine.execInit addr cfg power preset cad retry wps s
  | .encode dst src id flags payload => Sys2Proof.Machine.execEncode dst src id flags payload s
  | .decode bytes => Sys2Proof.Machine.execDecode bytes s
  | .illegal op => Sys2Proof.Machine.execIllegal op s
  -- frame classes
  | .frameAck dst src id flags payload => Sys2Proof.Machine.execFrameAck dst src id flags payload s
  | .frameDataBcast src id flags payload => Sys2Proof.Machine.execFrameDataBcast src id flags payload s
  | .frameDataUcast dst src id flags payload => Sys2Proof.Machine.execFrameDataUcast dst src id flags payload s
  -- event and step records
  | .evTick => Sys2Proof.Machine.execEvTick s
  | .evTxdone => Sys2Proof.Machine.execEvTxdone s
  | .evRxdone crcValid rssi snr bytes => Sys2Proof.Machine.execEvRxdone crcValid rssi snr bytes s
  | .evCaddone detected => Sys2Proof.Machine.execEvCaddone detected s
  | .stepC => Sys2Proof.Machine.execStepC s
  | .stepH => Sys2Proof.Machine.execStepH s
  | .stepX => Sys2Proof.Machine.execStepX s
  -- interrupt conditions
  | .irqSent => Sys2Proof.Machine.execIrqSent s
  | .irqRecv => Sys2Proof.Machine.execIrqRecv s
  | .irqCad a => Sys2Proof.Machine.execIrqCad a s
  -- handler phases
  | .hIdle => Sys2Proof.Machine.execHIdle s
  | .hFlags => Sys2Proof.Machine.execHFlags s
  | .hSent => Sys2Proof.Machine.execHSent s
  | .hRead => Sys2Proof.Machine.execHRead s
  | .hFilter => Sys2Proof.Machine.execHFilter s
  | .hDeliver => Sys2Proof.Machine.execHDeliver s
  -- gate phases
  | .gStart a => Sys2Proof.Machine.execGStart a s
  | .gCad a => Sys2Proof.Machine.execGCad a s
  | .gPoll a => Sys2Proof.Machine.execGPoll a s
  | .gBusy a => Sys2Proof.Machine.execGBusy a s
  | .gBackoff a => Sys2Proof.Machine.execGBackoff a s
  | .gFifo a => Sys2Proof.Machine.execGFifo a s
  | .gTrig a => Sys2Proof.Machine.execGTrig a s
  -- caller phases
  | .cAfterSend => Sys2Proof.Machine.execCAfterSend s
  | .cAfterSendw => Sys2Proof.Machine.execCAfterSendw s
  | .wWait => Sys2Proof.Machine.execWWait s
  | .sWait => Sys2Proof.Machine.execSWait s

end Sys2Proof.Machine
end

