-- ==== Sys2Proof/Machine/Step.lean ====
section
/-! DEFINITION. The step: take the next record of the script, decode it, run it (R8, R68, R100). -/

namespace Sys2Proof.Machine

open Sys2Proof

/-- One micro-step: the agent the next record names moves (log entry 5). -/
def step (s : State) : Host.Outcome State Fault Refusal :=
  match fetch s with
  | .error r => .refused r
  | .ok (i, t) => exec i t

/-- `s` with a word of the opcode table placed as its next instruction. -/
def State.withFetchWord (s : State) (nbits w : Nat) : State := placeWord nbits w s

end Sys2Proof.Machine
end

