-- ==== Sys2Proof/Safety.lean ====
section
/-! DEFINITION. What a run is, when it has ended, and the invariant of the block's states (70_reset_and_hazards.md
R283, and the rules cited at each field). -/

namespace Sys2Proof.Machine

open Sys2Proof

/-- No fault bit is set: the premise of a claim about a run (R9, R29). -/
def noFaultBit (s : State) : Bool := !s.session.faultCipherLength

/-- The block is quiescent (R283). -/
def quiescent (s : State) : Bool :=
  decide (s.c.seq = .idle) && decide (s.h.seq = .idle) && !s.session.closing &&
    (!s.session.isOpen || !s.radio.irqPend)

/-- End of a run, kind (a): the second micro-step of `CLOSE` has run (R283). That it has is read from `RESP`: it alone
writes the response `OK` of a `CLOSE` (R225), and only `INIT` opens a session again. DESIGN CHOICE (log entry 21): kind
(a) holds as soon as that micro-step has run, also while the caller sequencer still stands in `W_WAIT` or `S_WAIT`, where
its response is due and `INIT` is `Busy` (R226, R229); with an exhausted script such a run is of kind (c) as well. -/
def endedClosed (s : State) : Bool :=
  !s.session.isOpen && !s.session.closing && decide (s.session.mode = .sleep) &&
    s.resp.contains [opClose, statusCode .ok]

/-- End of a run, kind (b): no further record, quiescent and open (R283). -/
def endedOpen (s : State) : Bool := s.script.isEmpty && quiescent s && s.session.isOpen

/-- End of a run, kind (c): the script is exhausted while a sequencer is in progress; the run is a prefix (R283).
DESIGN CHOICE (log entry 21): R283 names no kind for an exhausted script with both sequencers idle when an edge is
latched in an open session, when `CLOSE` is half done, or when no `CLOSE` has ended the closed block's last session
(none was ever made); the model calls these prefixes too, so that every exhausted script has a kind. -/
def endedPrefix (s : State) : Bool :=
  s.script.isEmpty && (!quiescent s || (!s.session.isOpen && !endedClosed s))

/-- A run: micro-steps from the block-reset state with any script placed (R283), of a block with any parameters (R4). -/
inductive Reachable : State → Prop
  | start (script : List Record) (par : Params) : Reachable { State.reset with script := script, params := par }
  | next (s t : State) : Reachable s → step s = .next t → Reachable t

/-- The caller sequencer holds a frame in these phases (R39). -/
def callerHasFrame : CPhase → Bool
  | .idle => false
  | .gate _ => true
  | .after => true
  | .wWait => true
  | .sWait => false

/-- A frame `FifoWrite` is given for (R39 "a byte string of `HDR_LEN` to `FIFO_CAP` bytes", R64). -/
def frameSized (par : Params) (f : Bytes) : Prop := 4 ≤ f.length ∧ f.length ≤ par.fifoCap

/-- The invariant that every micro-step keeps. -/
structure Inv (s : State) : Prop where
  /-- The FIFO holds at most 255 bytes (R36). -/
  fifo_size : s.radio.fifo.length ≤ 255
  /-- A transmission carries at most 255 bytes (R38, R64). -/
  tx_size : s.radio.txBytes.length ≤ 255
  /-- The received-bytes register gives the length of a deposited frame (R34). -/
  rx_length : s.radio.fifoSrc = .rx → s.radio.fifo.length = s.radio.rxNb.toNat
  /-- A transmission is in flight in `Transmitting` only, and then the signal is 0 (R30, R141). -/
  tx_mode : s.radio.txInflight = true → s.session.mode = .transmitting ∧ s.session.txDone = false
  /-- A detection is in progress in `ChannelListen` only (R141). -/
  cad_mode : s.radio.cadInflight = true → s.session.mode = .channelListen
  /-- An edge is latched only while the session is open (R38, R224). -/
  latch_open : s.radio.irqPend = true → s.session.isOpen = true
  /-- A closing session is not open (R21). -/
  closing_shut : s.session.closing = true → s.session.isOpen = false
  /-- The address of an open session is a unicast address (R22). -/
  address : s.session.isOpen = true → s.session.thisAddr ≠ 255
  /-- An open session has a cipher only when the block was given one (R102). -/
  cipher_given : s.session.isOpen = true → s.session.cipherEn = true → Config.cipherPresent = true
  /-- An outstanding send belongs to the `SENDW` in progress, whose frame carries its destination and `id` (R187). -/
  pending : s.session.pendValid = true →
    s.c.op = .sendw ∧ s.c.seq ≠ .idle ∧ s.session.pendTo ≠ 255 ∧
      s.c.gate.frame.head? = some s.session.pendTo ∧ s.c.gate.frame[2]? = some s.session.pendId
  /-- A wake-up stands only for a unicast `SENDW` in progress whose record was cleared by its match (R30, R189). -/
  wakeup : s.session.ackOk = true →
    s.session.pendValid = false ∧ s.c.op = .sendw ∧ s.c.seq ≠ .idle ∧ s.c.gate.frame.head? ≠ some 255
  /-- The caller sequencer's frame is one that can be written (R39). -/
  caller_frame : callerHasFrame s.c.seq = true → frameSized s.params s.c.gate.frame
  /-- The gate and `C_AFTER` carry a `SEND` or a `SENDW` (R39). -/
  caller_op : callerHasFrame s.c.seq = true → s.c.op ≠ .waitsent
  /-- Only a unicast `SENDW` waits for an ACK (R184). -/
  ack_wait : s.c.seq = .wWait → s.c.op = .sendw ∧ s.c.gate.frame.head? ≠ some 255
  /-- Only `WAITSENT` waits for the packet-sent signal (R227). -/
  sent_wait : s.c.seq = .sWait → s.c.op = .waitsent
  /-- The handler's ACK frame is one that can be written (R191). -/
  handler_frame : ∀ p, s.h.seq = .gate p → frameSized s.params s.h.gate.frame
  /-- The filter looks at as many bytes as were read (R164). -/
  filter_length : s.h.seq = .filter → s.h.buf.length = s.h.len.toNat
  /-- The packet-sent arm serves a standing flag, and a standing packet-received flag after it (R161, R162). -/
  sent_flag : s.h.seq = .sent →
    s.radio.irqf.txDone = true ∧ (s.h.rxf = true → s.radio.irqf.rxDone = true)
  /-- The packet-received arm serves a standing flag (R161). -/
  read_flag : s.h.seq = .read → s.radio.irqf.rxDone = true

end Sys2Proof.Machine
end

