-- ==== Sys2Proof/Certificates/Slice0/Obligations.lean ====
section
/-! DEFINITION. The statements for the provers. Each is about every state and every operand that meets its
hypotheses; a next state is written out whole, so that what it does not name is unchanged. -/

open Sys2Proof Sys2Proof.Machine

/-! ## Fetching and encoding -/

/-- One micro-step runs the instruction the next record decodes to, with the record consumed and nothing else changed
(R8, R96, R100). The two stops are the model's own: no further record (R283), bytes that are no record (log entry 5). -/
def Obligations.StepRunsTheNextRecord : Prop :=
  ∀ s : State,
    (∀ r later i, s.script = r :: later → decode s.params (.record r) = some i →
      step s = exec i { s with script := later }) ∧
    (∀ r later, s.script = r :: later → decode s.params (.record r) = none → step s = .refused .malformedRecord) ∧
    (s.script = [] → step s = .refused .noRecord)

/-- Records, frames, conditions and phases written out from the tables decode to the instruction they stand for, with the
default parameters: one of each format (R90, R96, R98, R100, R112; the records of 95_test_vectors.md). -/
def Obligations.WrittenCodesDecode : Prop :=
  decode {} (.record (.cmd [0x01, 0x0A, 0x07, 0x00, 0x02, 0x48, 0x69])) = some (.send 10 7 0 [0x48, 0x69]) ∧
  decode {} (.record (.cmd [0x02, 0x0A, 0x00, 0x02, 0x02, 0x48, 0x69])) = some (.sendw 10 0 2 [0x48, 0x69]) ∧
  decode {} (.record (.cmd [0x09, 0x01])) = some (.setcb 1) ∧
  decode {} (.record (.cmd [0x0A, 0x02, 0x01, 0x0E, 0x00, 0xE8, 0x03, 0xC8, 0x00, 0xF4, 0x01])) =
    some (.init 2 1 14 0 1000 200 500) ∧
  decode {} (.record (.cmd [0x11, 0x03, 0x01, 0x02, 0x03])) = some (.decode [1, 2, 3]) ∧
  decode {} (.record (.evt [0x82, 0x01, 0x50, 0x20, 0x04, 0x02, 0x0A, 0x01, 0x80])) =
    some (.evRxdone true 0x50 0x20 [0x02, 0x0A, 0x01, 0x80]) ∧
  decode {} (.frame [0x02, 0x0A, 0x01, 0x80]) = some (.frameAck 2 10 1 0x80 []) ∧
  decode {} (.irq .sent) = some .irqSent ∧
  decode {} (.phaseC .after .sendw) = some .cAfterSendw ∧
  decode {} (.phaseH (.gate .trig)) = some (.gTrig .h)

/-- Decode and encode agree: decoding the code of a well-formed instruction gives it back, whatever
the parameters (R4, R90, R93, R98, R100, R112). -/
def Obligations.DecodeInvertsEncode : Prop :=
  ∀ (par : Params) (i : Instr), i.wellFormed par = true → decode par (encode i) = some i

/-- A record has one meaning: what a record decodes to is well formed and is encoded by that record alone (an
`ILLEGAL` record apart, which is consumed whatever follows its opcode). -/
def Obligations.RecordsHaveOneEncoding : Prop :=
  ∀ (par : Params) r i, decode par (.record r) = some i →
    i.wellFormed par = true ∧ ((∀ op, i ≠ .illegal op) → encode i = .record r)

/-- Every string of four or more bytes is a frame of exactly one class, tested in the order ACK, broadcast, unicast;
a shorter one is no frame. For every `ACK_MASK` (R91, R93, R94). -/
def Obligations.FrameClassesInOrder : Prop :=
  ∀ par : Params,
  (∀ (dst src id flags : Byte) (p : Bytes),
    (flags &&& par.ackMask ≠ 0 → decode par (.frame (dst :: src :: id :: flags :: p)) = some (.frameAck dst src id flags p)) ∧
    (flags &&& par.ackMask = 0 → dst = 255 →
      decode par (.frame (dst :: src :: id :: flags :: p)) = some (.frameDataBcast src id flags p)) ∧
    (flags &&& par.ackMask = 0 → dst ≠ 255 →
      decode par (.frame (dst :: src :: id :: flags :: p)) = some (.frameDataUcast dst src id flags p))) ∧
  (∀ f : Bytes, f.length < 4 → decode par (.frame f) = none)

/-! ## The Frame Codec -/

/-- The round trip of R130, for every `FIFO_CAP`, every cipher with the property `INV`, every header, every payload
within the bound and every value of the padding. -/
def Obligations.CodecRoundTrip : Prop :=
  ∀ (par : Params) (c : Option Cipher) (fill : Bytes) (h : Header) (p : Bytes),
    4 + p.length + padLen c p.length ≤ par.fifoCap → fill.length = padLen c p.length →
    (∀ k, c = some k → k.Inverts) →
    ∃ f, encodeWith par.fifoCap c fill h p = some f ∧
      f.length = 4 + p.length + padLen c p.length ∧
      (c = none → decodeWith c f = .frame h p) ∧
      (∀ k, c = some k →
        decodeWith c f = .frame h (p ++ fill) ∧
        (p ++ fill).take p.length = p ∧
        (p ++ fill = p ↔ p.length % k.B = 0))

/-- `pad(n)` is the least number of bytes that makes the payload a multiple of the block size; none without a cipher
(R105). -/
def Obligations.PaddingIsMinimal : Prop :=
  (∀ n, padLen none n = 0) ∧
  (∀ (k : Cipher) (n : Nat),
    (n + padLen (some k) n) % k.B = 0 ∧ ∀ m, m < padLen (some k) n → (n + m) % k.B ≠ 0)

/-- Bytes 0 to 3 of an encoded frame are the header as given, with or without a cipher (R124). -/
def Obligations.HeaderIsNeverTransformed : Prop :=
  ∀ (cap : Nat) (c : Option Cipher) (fill : Bytes) (h : Header) (p f : Bytes),
    encodeWith cap c fill h p = some f → f.take 4 = [h.dst, h.src, h.id, h.flags]

/-- What `Decode` returns on every input: `FrameTooShort` below four bytes, else the header and the remainder,
decrypted when a cipher is configured, or `CipherLength` when its length is no multiple of the block size
(R125, R126, R127). -/
def Obligations.DecodeOnEveryInput : Prop :=
  (∀ (c : Option Cipher) (b : Bytes), b.length < 4 → decodeWith c b = .tooShort) ∧
  (∀ (dst src id flags : Byte) (body : Bytes),
    decodeWith none (dst :: src :: id :: flags :: body) = .frame ⟨dst, src, id, flags⟩ body ∧
    ∀ k : Cipher,
      decodeWith (some k) (dst :: src :: id :: flags :: body) =
        if body.length % k.B = 0 then .frame ⟨dst, src, id, flags⟩ (k.dec body) else .cipherLength)

/-- `ENCODE` on an open session answers with the encoded frame, or `FrameTooLarge` (R128). -/
def Obligations.EncodeCommandAnswers : Prop :=
  ∀ (s : State) (dst src id flags : Byte) (p : Bytes), s.session.isOpen = true →
    exec (.encode dst src id flags p) s =
      .next
        (if 4 + p.length + padLen (sessionCipher s) p.length ≤ s.params.fifoCap then
          { s with
            resp := s.resp ++ [[0x10, 0x00, BitVec.ofNat 8 (4 + p.length + padLen (sessionCipher s) p.length),
              dst, src, id, flags] ++
                (if s.session.cipherEn then
                  Config.cipher.enc (p ++ freeBytes s.draws (padLen (sessionCipher s) p.length))
                else p)]
            draws := if s.session.cipherEn then s.draws + 1 else s.draws }
        else { s with resp := s.resp ++ [[0x10, 0x01]] })

/-- `DECODE` on an open session answers `FrameTooShort`, `CipherLength`, or the header and the payload, and writes
nothing else; on a closed one it is refused `Closed` (R129). -/
def Obligations.DecodeCommandAnswers : Prop :=
  ∀ (s : State) (b : Bytes),
    (s.session.isOpen = true →
      exec (.decode b) s =
        .next
          { s with
            resp := s.resp ++
              [if b.length < 4 then [0x11, 0x02]
              else if s.session.cipherEn = true ∧ (b.length - 4) % Config.cipher.B ≠ 0 then [0x11, 0x0A]
              else [0x11, 0x00] ++ b.take 4 ++ [BitVec.ofNat 8 (b.length - 4)] ++
                (if s.session.cipherEn then Config.cipher.dec (b.drop 4) else b.drop 4)] }) ∧
    (s.session.isOpen = false → exec (.decode b) s = .next { s with resp := s.resp ++ [[0x11, 0x08]] })

/-! ## The Radio State Machine -/

/-- `MODE.IDLE`, `MODE.RX` and `SLEEP` on an open session: from any state to their target, cancelling a transmission
and a detection in flight, answered `OK`; nothing else changes (R140 to R145). -/
def Obligations.ModeCommandsReachTheirTarget : Prop :=
  ∀ s : State, s.session.isOpen = true →
    exec .modeIdle s =
      .next
        { s with
          session := { s.session with mode := .idle }
          radio := { s.radio with txInflight := false, cadInflight := false }
          port := s.port ++ [.writeMode .idle]
          resp := s.resp ++ [[0x03, 0x00]] } ∧
    exec .modeRx s =
      .next
        { s with
          session := { s.session with mode := .receiving }
          radio := { s.radio with txInflight := false, cadInflight := false }
          port := s.port ++ [.writeMode .receiving]
          resp := s.resp ++ [[0x04, 0x00]] } ∧
    exec .sleep s =
      .next
        { s with
          session := { s.session with mode := .sleep }
          radio := { s.radio with txInflight := false, cadInflight := false }
          port := s.port ++ [.writeMode .sleep]
          resp := s.resp ++ [[0x06, 0x00]] }

/-- `MODE.TX` on an open session triggers what the FIFO holds: the frame the block staged, else any string of at most
255 bytes (R141, R144). -/
def Obligations.ModeTxTriggersTheFifo : Prop :=
  ∀ s : State, s.session.isOpen = true →
    exec .modeTx s =
      .next
        { s with
          session := { s.session with mode := .transmitting, txDone := false }
          radio :=
            { s.radio with
              txInflight := true
              cadInflight := false
              txBytes := if s.radio.fifoSrc = .tx then s.radio.fifo else freeString s.draws }
          port := s.port ++ [.writeMode .transmitting]
          resp := s.resp ++ [[0x05, 0x00]]
          draws := if s.radio.fifoSrc = .tx then s.draws else s.draws + 1 } ∧
    (freeString s.draws).length ≤ 255

/-! ## Session control -/

/-- A legal `INIT` on a closed, idle block makes a session: the operands in the configuration registers, every register
that the table of R45 gives a value at that value, `S.FAULT`, `NOW` and the traces kept, the reset line and the preset
accessed before the mode (R45, R220, R221, R272). The registers the table calls unspecified are not spoken of. That the
registers of `C.*` and `H.*` other than the two phases, which the table does not name, keep their values is the model's
choice (log entry 7). -/
def Obligations.InitMakesASession : Prop :=
  ∀ (s : State) (addr cfg power preset : Byte) (cad retry wps : Ticks),
    addr ≠ 255 → cfg.toNat < 4 → (cfg.getLsbD 1 = true → Config.cipherPresent = true) →
    s.session.isOpen = false → s.session.closing = false → s.c.seq = .idle → s.h.seq = .idle →
    ∃ t, exec (.init addr cfg power preset cad retry wps) s = .next t ∧
      t.session =
        { isOpen := true
          closing := false
          thisAddr := addr
          ackEn := cfg.getLsbD 0
          cipherEn := cfg.getLsbD 1
          txPower := power
          preset := preset
          cadTimeout := cad
          retryTimeout := retry
          wpsTimeout := wps
          mode := .idle
          lastId := 0
          pendValid := false
          pendTo := t.session.pendTo
          pendId := t.session.pendId
          pendLeft := t.session.pendLeft
          pendDeadline := t.session.pendDeadline
          faultCipherLength := s.session.faultCipherLength
          txDone := true
          ackOk := false
          cbEn := false } ∧
      t.radio =
        { irqf := { txDone := false, rxDone := false, cadDone := false, cadDetected := false }
          rxNb := 0
          rssiRaw := t.radio.rssiRaw
          snrRaw := t.radio.snrRaw
          fifo := []
          fifoSrc := .none
          crcValid := false
          txInflight := false
          txBytes := t.radio.txBytes
          cadInflight := false
          irqPend := false } ∧
      t.c = s.c ∧ t.h = s.h ∧ t.now = s.now ∧ t.deliv = s.deliv ∧ t.air = s.air ∧ t.script = s.script ∧
      t.params = s.params ∧ t.resp = s.resp ++ [[0x0A, 0x00]] ∧
      t.port = s.port ++ [.assertReset, .configurePreset preset power, .writeMode .idle]

/-- `INIT` with an illegal operand is answered `IllegalCommand` in every state; a legal one on an open or closing
session, or with a sequencer active, is answered `Busy`; nothing else changes (R102, R220, R241). -/
def Obligations.InitRefusals : Prop :=
  ∀ (s : State) (addr cfg power preset : Byte) (cad retry wps : Ticks),
    ((addr = 255 ∨ 4 ≤ cfg.toNat ∨ (cfg.getLsbD 1 = true ∧ Config.cipherPresent = false)) →
      exec (.init addr cfg power preset cad retry wps) s = .next { s with resp := s.resp ++ [[0x0A, 0x09]] }) ∧
    ((addr ≠ 255 ∧ cfg.toNat < 4 ∧ (cfg.getLsbD 1 = true → Config.cipherPresent = true)) →
      (s.session.isOpen = true ∨ s.session.closing = true ∨ s.c.seq ≠ .idle ∨ s.h.seq ≠ .idle) →
      exec (.init addr cfg power preset cad retry wps) s = .next { s with resp := s.resp ++ [[0x0A, 0x07]] })

/-- `SETCB` on an open session writes `S.CB_EN` and answers `OK`; an operand above 1 is illegal in every state; a legal
one is refused `Closed` on a closed session (R223). -/
def Obligations.SetcbWritesTheEnable : Prop :=
  ∀ (s : State) (en : Byte),
    (s.session.isOpen = true → en = 0 →
      exec (.setcb en) s =
        .next { s with session := { s.session with cbEn := false }, resp := s.resp ++ [[0x09, 0x00]] }) ∧
    (s.session.isOpen = true → en = 1 →
      exec (.setcb en) s =
        .next { s with session := { s.session with cbEn := true }, resp := s.resp ++ [[0x09, 0x00]] }) ∧
    (1 < en.toNat → exec (.setcb en) s = .next { s with resp := s.resp ++ [[0x09, 0x09]] }) ∧
    (s.session.isOpen = false → en.toNat ≤ 1 →
      exec (.setcb en) s = .next { s with resp := s.resp ++ [[0x09, 0x08]] })

/-- The first micro-step of `CLOSE`, whatever the sequencers do: the session is closed, the latch cleared, no response
yet; on a closed session it is refused `Closed` (R224). -/
def Obligations.CloseDisarms : Prop :=
  ∀ s : State,
    (s.session.isOpen = true →
      exec .close s =
        .next
          { s with
            session := { s.session with isOpen := false, closing := true }
            radio := { s.radio with irqPend := false } }) ∧
    (s.session.isOpen = false → exec .close s = .next { s with resp := s.resp ++ [[0x08, 0x08]] })

/-- The second micro-step of `CLOSE`: taken when the handler is idle and the caller sequencer is idle or in a wait
phase, it puts the radio to sleep and answers; otherwise there is no such step (R225). -/
def Obligations.CloseReleases : Prop :=
  ∀ s : State,
    (s.session.closing = true → s.h.seq = .idle → (s.c.seq = .idle ∨ s.c.seq = .wWait ∨ s.c.seq = .sWait) →
      exec .stepX s =
        .next
          { s with
            session := { s.session with mode := .sleep, closing := false }
            radio := { s.radio with txInflight := false, cadInflight := false }
            port := s.port ++ [.writeMode .sleep]
            resp := s.resp ++ [[0x08, 0x00]] }) ∧
    ((s.session.closing = false ∨ s.h.seq ≠ .idle ∨ (s.c.seq ≠ .idle ∧ s.c.seq ≠ .wWait ∧ s.c.seq ≠ .sWait)) →
      exec .stepX s = .refused .notEnabled)

/-- `WAITSENT` accepted sets its deadline and waits (refused `Closed` or `Busy` otherwise); in `S_WAIT` the signal answers
`OK` and is not cleared, the expiry alone answers `TransmitTimeout`, and before both the sequencer has no step
(R227). -/
def Obligations.WaitsentWaitsForTheSignal : Prop :=
  ∀ s : State,
    (s.session.isOpen = true → s.c.seq = .idle →
      exec .waitsent s =
        .next
          { s with c := { s.c with seq := .sWait, op := .waitsent, dl := s.now + s.session.wpsTimeout.toNat } }) ∧
    (s.session.isOpen = false → exec .waitsent s = .next { s with resp := s.resp ++ [[0x07, 0x08]] }) ∧
    (s.session.isOpen = true → s.c.seq ≠ .idle → exec .waitsent s = .next { s with resp := s.resp ++ [[0x07, 0x07]] }) ∧
    (s.c.seq = .sWait → s.session.txDone = true →
      exec .sWait s = .next { s with c := { s.c with seq := .idle }, resp := s.resp ++ [[0x07, 0x00]] }) ∧
    (s.c.seq = .sWait → s.session.txDone = false → s.c.dl ≤ s.now →
      exec .sWait s = .next { s with c := { s.c with seq := .idle }, resp := s.resp ++ [[0x07, 0x06]] }) ∧
    (s.c.seq = .sWait → s.session.txDone = false → s.now < s.c.dl → ∀ t, exec .sWait s ≠ .next t)

/-- An opcode outside the table is `ILLEGAL` whatever follows it, and is answered `[op, IllegalCommand]` in every state
with nothing else changed (R102). -/
def Obligations.IllegalOpcodesAreAnswered : Prop :=
  ∀ (op : Byte) (operands : Bytes) (s : State),
    op ∉ ([0x01, 0x02, 0x03, 0x04, 0x05, 0x06, 0x07, 0x08, 0x09, 0x0A, 0x10, 0x11] : List Byte) →
    decode s.params (.record (.cmd (op :: operands))) = some (.illegal op) ∧
    exec (.illegal op) s = .next { s with resp := s.resp ++ [[op, 0x09]] }

/-- On a closed session every command but `INIT`, an illegal opcode and an illegal `SETCB` is answered `Closed` and
nothing else changes (R221, R229, R241). -/
def Obligations.ClosedSessionRefusesCommands : Prop :=
  ∀ (i : Instr) (op : Byte) (operands : Bytes) (s : State),
    encode i = .record (.cmd (op :: operands)) → s.session.isOpen = false →
    (∀ a b c d e f g, i ≠ .init a b c d e f g) → (∀ o, i ≠ .illegal o) → (∀ en, i = .setcb en → en.toNat ≤ 1) →
    exec i s = .next { s with resp := s.resp ++ [[op, 0x08]] }

/-- A sequenced command given while the caller sequencer is not idle is answered `Busy` and nothing else changes
(R74, R187, R241). -/
def Obligations.BusyRefusesSequencedCommands : Prop :=
  ∀ s : State, s.session.isOpen = true → s.c.seq ≠ .idle →
    (∀ dst id flags p, exec (.send dst id flags p) s = .next { s with resp := s.resp ++ [[0x01, 0x07]] }) ∧
    (∀ dst flags retries p,
      exec (.sendw dst flags retries p) s = .next { s with resp := s.resp ++ [[0x02, 0x07]] }) ∧
    exec .waitsent s = .next { s with resp := s.resp ++ [[0x07, 0x07]] }

/-! ## The Reliability Layer -/

/-- `SEND` accepted: the frame is encoded with the `id` operand as given and handed to the gate; a frame over the bound
is answered `FrameTooLarge` with nothing else changed (R123, R180). -/
def Obligations.SendStartsTheGate : Prop :=
  ∀ (s : State) (dst id flags : Byte) (p : Bytes), s.session.isOpen = true → s.c.seq = .idle →
    exec (.send dst id flags p) s =
      .next
        (if 4 + p.length + padLen (sessionCipher s) p.length ≤ s.params.fifoCap then
          { s with
            c :=
              { s.c with
                seq := .gate .start
                op := .send
                gate :=
                  { s.c.gate with
                    frame := [dst, s.session.thisAddr, id, flags] ++
                      (if s.session.cipherEn then
                        Config.cipher.enc (p ++ freeBytes s.draws (padLen (sessionCipher s) p.length))
                      else p) } }
            draws := if s.session.cipherEn then s.draws + 1 else s.draws }
        else { s with resp := s.resp ++ [[0x01, 0x01]] })

/-- `SENDW` accepted: the counter is incremented modulo 256 and used as the frame's `id`, the wake-up is cleared, the
outstanding-send record is made unless the destination is 255, the gate starts; a frame over the bound is answered
`FrameTooLarge` and the counter keeps its value (R104, R123, R183). -/
def Obligations.SendwStartsTheGate : Prop :=
  ∀ (s : State) (dst flags retries : Byte) (p : Bytes), s.session.isOpen = true → s.c.seq = .idle →
    exec (.sendw dst flags retries p) s =
      .next
        (if 4 + p.length + padLen (sessionCipher s) p.length ≤ s.params.fifoCap then
          { s with
            session :=
              if dst = 255 then { s.session with lastId := s.session.lastId + 1, ackOk := false }
              else
                { s.session with
                  lastId := s.session.lastId + 1
                  ackOk := false
                  pendValid := true
                  pendTo := dst
                  pendId := s.session.lastId + 1
                  pendLeft := retries }
            c :=
              { s.c with
                seq := .gate .start
                op := .sendw
                gate :=
                  { s.c.gate with
                    frame := [dst, s.session.thisAddr, s.session.lastId + 1, flags] ++
                      (if s.session.cipherEn then
                        Config.cipher.enc (p ++ freeBytes s.draws (padLen (sessionCipher s) p.length))
                      else p) } }
            draws := if s.session.cipherEn then s.draws + 1 else s.draws }
        else { s with resp := s.resp ++ [[0x02, 0x01]] })

/-- `C_AFTER`: a `SEND` is answered `OK` at the trigger; a `SENDW` to 255 is answered `OK` without a wait; any other
`SENDW` sets its deadline and waits (R181, R184). -/
def Obligations.AfterTheTrigger : Prop :=
  ∀ s : State, s.c.seq = .after →
    (s.c.op = .send →
      exec .cAfterSend s = .next { s with c := { s.c with seq := .idle }, resp := s.resp ++ [[0x01, 0x00]] }) ∧
    (s.c.op = .sendw → s.c.gate.frame.head? = some 255 →
      exec .cAfterSendw s = .next { s with c := { s.c with seq := .idle }, resp := s.resp ++ [[0x02, 0x00]] }) ∧
    (s.c.op = .sendw → s.c.gate.frame.head? ≠ some 255 →
      exec .cAfterSendw s =
        .next
          { s with
            session := { s.session with pendDeadline := s.now + s.session.retryTimeout.toNat }
            c := { s.c with seq := .wWait } })

/-- `W_WAIT`: the wake-up answers `OK` and is consumed; at the deadline an open session with re-sends left re-sends the
same frame, else the command gives up with `SendTimeout` and the record is cleared; before both it has no step
(R185). -/
def Obligations.WWaitDecides : Prop :=
  ∀ s : State, s.c.seq = .wWait →
    (s.session.ackOk = true →
      exec .wWait s =
        .next
          { s with
            session := { s.session with ackOk := false }
            c := { s.c with seq := .idle }
            resp := s.resp ++ [[0x02, 0x00]] }) ∧
    (s.session.ackOk = false → s.session.pendDeadline ≤ s.now → s.session.isOpen = true → s.session.pendLeft ≠ 0 →
      exec .wWait s =
        .next
          { s with
            session := { s.session with pendLeft := s.session.pendLeft - 1 }
            c := { s.c with seq := .gate .start } }) ∧
    (s.session.ackOk = false → s.session.pendDeadline ≤ s.now →
      (s.session.isOpen = false ∨ s.session.pendLeft = 0) →
      exec .wWait s =
        .next
          { s with
            session := { s.session with pendValid := false }
            c := { s.c with seq := .idle }
            resp := s.resp ++ [[0x02, 0x05]] }) ∧
    (s.session.ackOk = false → s.now < s.session.pendDeadline → ∀ t, exec .wWait s ≠ .next t)

/-- A received ACK frame completes the outstanding send exactly when its `from` and `id` are the record's; matched or
not it is consumed: never delivered, never acknowledged. With a cipher, a payload of no multiple of the block size is
discarded with the fault bit set (R167, R188, R189). -/
def Obligations.AckFramesAreMatchedAndConsumed : Prop :=
  ∀ (s : State) (dst src id flags : Byte) (p : Bytes), s.h.seq = .filter →
    exec (.frameAck dst src id flags p) s =
      .next
        (if s.session.cipherEn = true ∧ p.length % Config.cipher.B ≠ 0 then
          { s with session := { s.session with faultCipherLength := true }, h := { s.h with seq := .idle } }
        else
          { s with
            session :=
              if s.session.pendValid = true ∧ src = s.session.pendTo ∧ id = s.session.pendId then
                { s.session with pendValid := false, ackOk := true }
              else s.session
            h :=
              { s.h with
                seq := .idle
                hdr := ⟨dst, src, id, flags⟩
                msg := if s.session.cipherEn then Config.cipher.dec p else p } })

/-- A received broadcast data frame is delivered without an ACK; with a cipher, a payload of no multiple of the block
size is discarded with the fault bit set (R167, R190). -/
def Obligations.BroadcastFramesAreDelivered : Prop :=
  ∀ (s : State) (src id flags : Byte) (p : Bytes), s.h.seq = .filter →
    exec (.frameDataBcast src id flags p) s =
      .next
        (if s.session.cipherEn = true ∧ p.length % Config.cipher.B ≠ 0 then
          { s with session := { s.session with faultCipherLength := true }, h := { s.h with seq := .idle } }
        else
          { s with
            h :=
              { s.h with
                seq := .deliver
                hdr := ⟨255, src, id, flags⟩
                msg := if s.session.cipherEn then Config.cipher.dec p else p } })

/-- A received unicast data frame: with acknowledgments on, the ACK frame `[from, this_address, id, ACK_MASK]` is put in
`H.FRAME` and the handler's gate starts; with them off it is delivered (R190, R191). The draw count is the model's
own (log entry 6). -/
def Obligations.UnicastFramesAreAcknowledged : Prop :=
  ∀ (s : State) (dst src id flags : Byte) (p : Bytes), s.h.seq = .filter →
    exec (.frameDataUcast dst src id flags p) s =
      .next
        (if s.session.cipherEn = true ∧ p.length % Config.cipher.B ≠ 0 then
          { s with session := { s.session with faultCipherLength := true }, h := { s.h with seq := .idle } }
        else if s.session.ackEn = true then
          { s with
            h :=
              { s.h with
                seq := .gate .start
                hdr := ⟨dst, src, id, flags⟩
                msg := if s.session.cipherEn then Config.cipher.dec p else p
                gate := { s.h.gate with frame := [src, s.session.thisAddr, id, s.params.ackMask] } }
            draws := if s.session.cipherEn then s.draws + 1 else s.draws }
        else
          { s with
            h :=
              { s.h with
                seq := .deliver
                hdr := ⟨dst, src, id, flags⟩
                msg := if s.session.cipherEn then Config.cipher.dec p else p } })

/-! ## The Interrupt Bridge -/

/-- `H_IDLE`: taking the interrupt clears the latch and starts the handler, and changes nothing else; without an edge,
with the session closed, or inside an invocation, none starts (R160). -/
def Obligations.InterruptEntry : Prop :=
  ∀ s : State,
    (s.h.seq = .idle → s.radio.irqPend = true → s.session.isOpen = true →
      exec .hIdle s =
        .next { s with radio := { s.radio with irqPend := false }, h := { s.h with seq := .flags } }) ∧
    ((s.h.seq ≠ .idle ∨ s.radio.irqPend = false ∨ s.session.isOpen = false) → ∀ t, exec .hIdle s ≠ .next t)

/-- `H_FLAGS`: one snapshot of the two dispatched flags, packet sent first; the CAD flags are neither read nor cleared
(R161, R162). -/
def Obligations.FlagsSnapshot : Prop :=
  ∀ s : State, s.h.seq = .flags →
    exec .hFlags s =
      .next
        { s with
          h :=
            { s.h with
              txf := s.radio.irqf.txDone
              rxf := s.radio.irqf.rxDone
              seq :=
                if s.radio.irqf.txDone = true then .sent
                else if s.radio.irqf.rxDone = true then .read
                else .idle }
          port := s.port ++ [.readIrqf] }

/-- `H_SENT`: the flag is cleared, the mode is `Idle` whatever it was, a transmission or detection in flight is
cancelled, the signal is set, and the other arm follows when the snapshot holds it; the condition `IRQ.SENT`, where it
stands, is served so (R162, R163). -/
def Obligations.PacketSentServed : Prop :=
  ∀ s : State, s.h.seq = .sent →
    exec .hSent s =
      .next
        { s with
          session := { s.session with mode := .idle, txDone := true }
          radio :=
            { s.radio with
              irqf := { s.radio.irqf with txDone := false }
              txInflight := false
              cadInflight := false }
          h := { s.h with seq := if s.h.rxf = true then .read else .idle }
          port := s.port ++ [.clearTxDone, .writeMode .idle] } ∧
    (s.radio.irqf.txDone = true → ∃ t, exec .irqSent s = .next t ∧ exec .hSent s = .next t)

/-- `H_READ`: the flag and the CRC status are cleared, the length, the bytes, the CRC verdict and the signal quality are
kept; the bytes are the deposited frame's where the FIFO still holds them, else any bytes of that length; the condition
`IRQ.RECV`, where it stands, is served so (R64, R66, R164). -/
def Obligations.PacketReceivedServed : Prop :=
  ∀ s : State, s.h.seq = .read →
    exec .hRead s =
      .next
        { s with
          radio := { s.radio with irqf := { s.radio.irqf with rxDone := false }, crcValid := false }
          h :=
            { s.h with
              seq := .filter
              len := s.radio.rxNb
              buf :=
                if s.radio.fifoSrc = .rx ∧ s.radio.rxNb.toNat ≤ s.radio.fifo.length then
                  s.radio.fifo.take s.radio.rxNb.toNat
                else freeBytes s.draws s.radio.rxNb.toNat
              crc := s.radio.crcValid
              rssi := s.radio.rssiRaw
              snr := s.radio.snrRaw }
          port := s.port ++
            [.clearRxDone, .readRxNb, .fifoRead s.radio.rxNb.toNat, .readClearCrc, .readRssi, .readSnr]
          draws :=
            if s.radio.fifoSrc = .rx ∧ s.radio.rxNb.toNat ≤ s.radio.fifo.length then s.draws else s.draws + 1 } ∧
    (s.radio.irqf.rxDone = true → ∃ t, exec .irqRecv s = .next t ∧ exec .hRead s = .next t)

/-- `H_FILTER` drops a frame with a bad CRC, one of fewer than four bytes, and one addressed to neither this session nor
255: the handler returns to idle and nothing else changes (R165, R166, R171). That an `H.BUF` of fewer than four bytes
beside a larger `H.LEN`, which no run reaches, is dropped is the model's choice (log entry 16). -/
def Obligations.FilterDropsSilently : Prop :=
  ∀ s : State, s.h.seq = .filter →
    (s.h.crc = false ∨ s.h.len.toNat < 4 ∨ s.h.buf.length < 4 ∨
      (s.h.buf.head? ≠ some s.session.thisAddr ∧ s.h.buf.head? ≠ some 255)) →
    exec .hFilter s = .next { s with h := { s.h with seq := .idle } }

/-- `H_FILTER` runs, on a frame that passes its tests, exactly the frame class the decoder reads from it, and completes
(R93, R165, R188). That a frame row is an instruction, which acts at the filter on the payload as received, is the
model's reading (log entry 13). -/
def Obligations.FilterRunsTheFrameClass : Prop :=
  ∀ (s : State) (i : Instr), s.h.seq = .filter → s.h.crc = true → 4 ≤ s.h.len.toNat →
    (s.h.buf.head? = some s.session.thisAddr ∨ s.h.buf.head? = some 255) →
    decode s.params (.frame s.h.buf) = some i →
    ∃ t, exec .hFilter s = .next t ∧ exec i s = .next t

/-- `H_DELIVER`: with a callback registered one delivery record is appended; the handler returns to idle (R99, R168). -/
def Obligations.DeliveryRecord : Prop :=
  ∀ s : State, s.h.seq = .deliver →
    exec .hDeliver s =
      .next
        { s with
          deliv :=
            if s.session.cbEn = true then
              s.deliv ++ [[s.h.hdr.src, s.h.hdr.dst, s.h.hdr.id, s.h.hdr.flags, BitVec.ofNat 8 s.h.msg.length] ++
                s.h.msg ++ [s.h.rssi, s.h.snr]]
            else s.deliv
          h := { s.h with seq := .idle } }

/-! ## The gate -/

/-- `G_START` takes the start time; the step record of the sequencer that stands there takes exactly this micro-step
(R100, R201). -/
def Obligations.GateTakesItsStartTime : Prop :=
  ∀ s : State,
    (s.c.seq = .gate .start →
      ∃ t, exec (.gStart .c) s = .next t ∧ exec .stepC s = .next t ∧
        t = { s with c := { s.c with seq := .gate .cad, gate := { s.c.gate with t0 := s.now } } }) ∧
    (s.h.seq = .gate .start →
      ∃ t, exec (.gStart .h) s = .next t ∧ exec .stepH s = .next t ∧
        t = { s with h := { s.h with seq := .gate .cad, gate := { s.h.gate with t0 := s.now } } })

/-- `G_CAD`: the mode is `ChannelListen`, a transmission in flight is cancelled, both CAD flags are cleared, a detection
is started and its window set (R141, R202). -/
def Obligations.GateStartsADetection : Prop :=
  ∀ s : State,
    (s.c.seq = .gate .cad →
      exec (.gCad .c) s =
        .next
          { s with
            session := { s.session with mode := .channelListen }
            radio :=
              { s.radio with
                irqf := { s.radio.irqf with cadDone := false, cadDetected := false }
                txInflight := false
                cadInflight := true }
            c := { s.c with seq := .gate .poll, gate := { s.c.gate with wdl := s.now + Config.cadWindow } }
            port := s.port ++ [.clearCad, .writeMode .channelListen] }) ∧
    (s.h.seq = .gate .cad →
      exec (.gCad .h) s =
        .next
          { s with
            session := { s.session with mode := .channelListen }
            radio :=
              { s.radio with
                irqf := { s.radio.irqf with cadDone := false, cadDetected := false }
                txInflight := false
                cadInflight := true }
            h := { s.h with seq := .gate .poll, gate := { s.h.gate with wdl := s.now + Config.cadWindow } }
            port := s.port ++ [.clearCad, .writeMode .channelListen] })

/-- `G_POLL`: a standing report is taken, both flags cleared, and leads to `G_BUSY` when activity was detected, else to
`G_FIFO`; without one the end of the window leads to `G_FIFO`; before both the sequencer holds. The condition `IRQ.CAD`,
where it stands, is served so (R203). -/
def Obligations.GatePollsTheReport : Prop :=
  ∀ s : State,
    (s.c.seq = .gate .poll →
      (s.radio.irqf.cadDone = true →
        exec (.gPoll .c) s =
          .next
            { s with
              radio := { s.radio with irqf := { s.radio.irqf with cadDone := false, cadDetected := false } }
              c := { s.c with seq := .gate (if s.radio.irqf.cadDetected = true then .busy else .fifo) }
              port := s.port ++ [.readIrqf, .clearCad] } ∧
        ∃ t, exec (.irqCad .c) s = .next t ∧ exec (.gPoll .c) s = .next t) ∧
      (s.radio.irqf.cadDone = false → s.c.gate.wdl ≤ s.now →
        exec (.gPoll .c) s =
          .next { s with c := { s.c with seq := .gate .fifo }, port := s.port ++ [.readIrqf] }) ∧
      (s.radio.irqf.cadDone = false → s.now < s.c.gate.wdl → exec (.gPoll .c) s = .refused .hold)) ∧
    (s.h.seq = .gate .poll →
      (s.radio.irqf.cadDone = true →
        exec (.gPoll .h) s =
          .next
            { s with
              radio := { s.radio with irqf := { s.radio.irqf with cadDone := false, cadDetected := false } }
              h := { s.h with seq := .gate (if s.radio.irqf.cadDetected = true then .busy else .fifo) }
              port := s.port ++ [.readIrqf, .clearCad] } ∧
        ∃ t, exec (.irqCad .h) s = .next t ∧ exec (.gPoll .h) s = .next t) ∧
      (s.radio.irqf.cadDone = false → s.h.gate.wdl ≤ s.now →
        exec (.gPoll .h) s =
          .next { s with h := { s.h with seq := .gate .fifo }, port := s.port ++ [.readIrqf] }) ∧
      (s.radio.irqf.cadDone = false → s.now < s.h.gate.wdl → exec (.gPoll .h) s = .refused .hold))

/-- `G_BUSY`: at the `cad_timeout` bound, counted from `G_START`, the frame goes out anyway; before it the sequencer
backs off for a drawn interval of at most `BACKOFF_MAX` ticks (R204, R206). -/
def Obligations.GateBacksOffUntilTheBound : Prop :=
  ∀ s : State,
    (s.c.seq = .gate .busy →
      (s.session.cadTimeout.toNat ≤ s.now - s.c.gate.t0 →
        exec (.gBusy .c) s = .next { s with c := { s.c with seq := .gate .fifo } }) ∧
      (s.now - s.c.gate.t0 < s.session.cadTimeout.toNat →
        ∃ d, d ≤ Config.backoffMax ∧
          exec (.gBusy .c) s =
            .next
              { s with
                c := { s.c with seq := .gate .backoff, gate := { s.c.gate with bdl := s.now + d } }
                draws := s.draws + 1 })) ∧
    (s.h.seq = .gate .busy →
      (s.session.cadTimeout.toNat ≤ s.now - s.h.gate.t0 →
        exec (.gBusy .h) s = .next { s with h := { s.h with seq := .gate .fifo } }) ∧
      (s.now - s.h.gate.t0 < s.session.cadTimeout.toNat →
        ∃ d, d ≤ Config.backoffMax ∧
          exec (.gBusy .h) s =
            .next
              { s with
                h := { s.h with seq := .gate .backoff, gate := { s.h.gate with bdl := s.now + d } }
                draws := s.draws + 1 }))

/-- `G_BACKOFF`: at its deadline the detection is started again, nothing else changes; before it the sequencer has no step
(R205). -/
def Obligations.GateDetectsAgain : Prop :=
  ∀ s : State,
    (s.c.seq = .gate .backoff →
      (s.c.gate.bdl ≤ s.now → exec (.gBackoff .c) s = .next { s with c := { s.c with seq := .gate .cad } }) ∧
      (s.now < s.c.gate.bdl → ∀ t, exec (.gBackoff .c) s ≠ .next t)) ∧
    (s.h.seq = .gate .backoff →
      (s.h.gate.bdl ≤ s.now → exec (.gBackoff .h) s = .next { s with h := { s.h with seq := .gate .cad } }) ∧
      (s.now < s.h.gate.bdl → ∀ t, exec (.gBackoff .h) s ≠ .next t))

/-- `G_FIFO`: the FIFO is replaced by the sequencer's frame, byte for byte from offset 0, nothing beyond it; a
transmission in flight then carries any string of at most 255 bytes. Given for frames of 4 to `FIFO_CAP` bytes (R64, R66,
R207). -/
def Obligations.GateStagesItsFrame : Prop :=
  ∀ s : State,
    (s.c.seq = .gate .fifo → 4 ≤ s.c.gate.frame.length → s.c.gate.frame.length ≤ s.params.fifoCap →
      ∃ t, exec (.gFifo .c) s = .next t ∧
        t =
          { s with
            radio :=
              { s.radio with
                fifo := s.c.gate.frame
                fifoSrc := .tx
                txBytes := if s.radio.txInflight = true then freeString s.draws else s.radio.txBytes }
            c := { s.c with seq := .gate .trig }
            port := s.port ++ [.fifoWrite s.c.gate.frame]
            draws := if s.radio.txInflight = true then s.draws + 1 else s.draws } ∧
        ∀ a, fifoByte t a = s.c.gate.frame[a]?) ∧
    (s.h.seq = .gate .fifo → 4 ≤ s.h.gate.frame.length → s.h.gate.frame.length ≤ s.params.fifoCap →
      ∃ t, exec (.gFifo .h) s = .next t ∧
        t =
          { s with
            radio :=
              { s.radio with
                fifo := s.h.gate.frame
                fifoSrc := .tx
                txBytes := if s.radio.txInflight = true then freeString s.draws else s.radio.txBytes }
            h := { s.h with seq := .gate .trig }
            port := s.port ++ [.fifoWrite s.h.gate.frame]
            draws := if s.radio.txInflight = true then s.draws + 1 else s.draws } ∧
        ∀ a, fifoByte t a = s.h.gate.frame[a]?)

/-- `G_TRIG`: the mode is `Transmitting`, the transmission latches the frame the block staged (else any bytes), the
signal is cleared, and the gate ends in its user's continuation (R141, R208). -/
def Obligations.GateTriggers : Prop :=
  ∀ s : State,
    (s.c.seq = .gate .trig →
      exec (.gTrig .c) s =
        .next
          { s with
            session := { s.session with mode := .transmitting, txDone := false }
            radio :=
              { s.radio with
                txInflight := true
                cadInflight := false
                txBytes := if s.radio.fifoSrc = .tx then s.radio.fifo else freeString s.draws }
            c := { s.c with seq := .after }
            port := s.port ++ [.writeMode .transmitting]
            draws := if s.radio.fifoSrc = .tx then s.draws else s.draws + 1 }) ∧
    (s.h.seq = .gate .trig →
      exec (.gTrig .h) s =
        .next
          { s with
            session := { s.session with mode := .transmitting, txDone := false }
            radio :=
              { s.radio with
                txInflight := true
                cadInflight := false
                txBytes := if s.radio.fifoSrc = .tx then s.radio.fifo else freeString s.draws }
            h := { s.h with seq := .deliver }
            port := s.port ++ [.writeMode .transmitting]
            draws := if s.radio.fifoSrc = .tx then s.draws else s.draws + 1 })

/-! ## The environment and the step records -/

/-- `EV.TICK` is always enabled and advances the time base by one; time passes by no other step (R247). -/
def Obligations.TickAdvancesTime : Prop :=
  (∀ s : State, exec .evTick s = .next { s with now := s.now + 1 }) ∧
  (∀ (i : Instr) (s t : State), i ≠ .evTick → exec i s = .next t → t.now = s.now)

/-- `EV.TXDONE` completes the transmission in flight of an open session in `Transmitting`: the frame is appended to
`AIR`, the condition raised, the mode kept; otherwise there is no such step (R244). -/
def Obligations.TransmissionCompletes : Prop :=
  ∀ s : State,
    (s.session.isOpen = true → s.session.mode = .transmitting → s.radio.txInflight = true →
      exec .evTxdone s =
        .next
          { s with
            air := s.air ++ [s.radio.txBytes]
            radio :=
              { s.radio with
                txInflight := false
                irqf := { s.radio.irqf with txDone := true }
                irqPend := true } }) ∧
    ((s.session.isOpen = false ∨ s.session.mode ≠ .transmitting ∨ s.radio.txInflight = false) →
      ∀ t, exec .evTxdone s ≠ .next t)

/-- `EV.RXDONE` deposits a frame of at most 255 bytes in an open session in `Idle` or `Receiving`: it replaces what the
FIFO holds, raises the condition and keeps the mode; otherwise there is no such step (R245). -/
def Obligations.FrameIsDeposited : Prop :=
  ∀ (s : State) (v : Bool) (rssi snr : Byte) (b : Bytes), b.length ≤ 255 →
    (s.session.isOpen = true → (s.session.mode = .idle ∨ s.session.mode = .receiving) →
      exec (.evRxdone v rssi snr b) s =
        .next
          { s with
            radio :=
              { s.radio with
                fifo := b
                fifoSrc := .rx
                rxNb := BitVec.ofNat 8 b.length
                crcValid := v
                rssiRaw := rssi
                snrRaw := snr
                irqf := { s.radio.irqf with rxDone := true }
                irqPend := true } }) ∧
    ((s.session.isOpen = false ∨ (s.session.mode ≠ .idle ∧ s.session.mode ≠ .receiving)) →
      ∀ t, exec (.evRxdone v rssi snr b) s ≠ .next t)

/-- `EV.CADDONE` reports the detection in progress of an open session in `ChannelListen`: one report per detection, the
mode kept; otherwise there is no such step (R246). -/
def Obligations.DetectionReports : Prop :=
  ∀ (s : State) (d : Bool),
    (s.session.isOpen = true → s.session.mode = .channelListen → s.radio.cadInflight = true →
      exec (.evCaddone d) s =
        .next
          { s with
            radio :=
              { s.radio with
                cadInflight := false
                irqf := { s.radio.irqf with cadDone := true, cadDetected := d }
                irqPend := true } }) ∧
    ((s.session.isOpen = false ∨ s.session.mode ≠ .channelListen ∨ s.radio.cadInflight = false) →
      ∀ t, exec (.evCaddone d) s ≠ .next t)

/-- `STEP.C` and `STEP.H` run exactly the row that `C.SEQ` (with `C.OP`) and `H.SEQ` select; `STEP.C` in `C_IDLE`, which
selects none, has no step (R100, R112). -/
def Obligations.StepRecordsRunTheSelectedPhase : Prop :=
  ∀ s : State,
    (∀ i, decode s.params (.phaseC s.c.seq s.c.op) = some i → exec .stepC s = exec i s) ∧
    (∀ i, decode s.params (.phaseH s.h.seq) = some i → exec .stepH s = exec i s) ∧
    (s.c.seq = .idle → exec .stepC s = .refused .hold)

/-- Every stop of the model, by name: a phase that holds, an event or a second micro-step of `CLOSE` that is not enabled, a
row no register selects, a record too long, no record and none that decodes, a frame that cannot be written. Where the
spec has no step the names are the model's choice (log entries 5, 9, 10, 15). -/
def Obligations.StopsAreNamed : Prop :=
  ∀ s : State,
    -- holds
    (s.h.seq = .idle → (s.radio.irqPend = false ∨ s.session.isOpen = false) → exec .hIdle s = .refused .hold) ∧
    (∀ a, inGate a .poll s = true → s.radio.irqf.cadDone = false → s.now < (gateRegs a s).wdl →
      exec (.gPoll a) s = .refused .hold) ∧
    (∀ a, inGate a .backoff s = true → s.now < (gateRegs a s).bdl → exec (.gBackoff a) s = .refused .hold) ∧
    (s.c.seq = .wWait → s.session.ackOk = false → s.now < s.session.pendDeadline → exec .wWait s = .refused .hold) ∧
    (s.c.seq = .sWait → s.session.txDone = false → s.now < s.c.dl → exec .sWait s = .refused .hold) ∧
    (s.c.seq = .idle → exec .stepC s = .refused .hold) ∧
    -- not enabled
    ((s.session.isOpen = false ∨ s.session.mode ≠ .transmitting ∨ s.radio.txInflight = false) →
      exec .evTxdone s = .refused .notEnabled) ∧
    ((s.session.isOpen = false ∨ s.session.mode ≠ .channelListen ∨ s.radio.cadInflight = false) →
      ∀ d, exec (.evCaddone d) s = .refused .notEnabled) ∧
    ((s.session.isOpen = false ∨ (s.session.mode ≠ .idle ∧ s.session.mode ≠ .receiving)) →
      ∀ v rssi snr b, b.length ≤ 255 → exec (.evRxdone v rssi snr b) s = .refused .notEnabled) ∧
    ((s.session.closing = false ∨ s.h.seq ≠ .idle ∨ (s.c.seq ≠ .idle ∧ s.c.seq ≠ .wWait ∧ s.c.seq ≠ .sWait)) →
      exec .stepX s = .refused .notEnabled) ∧
    -- no record
    (∀ v rssi snr b, 255 < b.length → exec (.evRxdone v rssi snr b) s = .refused .malformedRecord) ∧
    (∀ r later, s.script = r :: later → decode s.params (.record r) = none → step s = .refused .malformedRecord) ∧
    (s.script = [] → step s = .refused .noRecord) ∧
    -- not selected
    (∀ a p, inGate a p s = false → exec (gateInstr a p) s = .refused .notSelected) ∧
    (∀ p, s.h.seq ≠ p → (∀ g, p ≠ .gate g) → exec (selectH p) s = .refused .notSelected) ∧
    (s.h.seq ≠ .filter → ∀ dst src id flags b,
      exec (.frameAck dst src id flags b) s = .refused .notSelected ∧
      exec (.frameDataBcast src id flags b) s = .refused .notSelected ∧
      exec (.frameDataUcast dst src id flags b) s = .refused .notSelected) ∧
    ((s.h.seq ≠ .sent ∨ s.radio.irqf.txDone = false) → exec .irqSent s = .refused .notSelected) ∧
    ((s.h.seq ≠ .read ∨ s.radio.irqf.rxDone = false) → exec .irqRecv s = .refused .notSelected) ∧
    (∀ a, (inGate a .poll s = false ∨ s.radio.irqf.cadDone = false) → exec (.irqCad a) s = .refused .notSelected) ∧
    ((s.c.seq ≠ .after ∨ s.c.op ≠ .send) → exec .cAfterSend s = .refused .notSelected) ∧
    ((s.c.seq ≠ .after ∨ s.c.op ≠ .sendw) → exec .cAfterSendw s = .refused .notSelected) ∧
    (s.c.seq = .after → s.c.op = .waitsent → exec .stepC s = .refused .notSelected) ∧
    (s.c.seq ≠ .wWait → exec .wWait s = .refused .notSelected) ∧
    (s.c.seq ≠ .sWait → exec .sWait s = .refused .notSelected) ∧
    -- the fault
    (∀ a, inGate a .fifo s = true →
      ((gateRegs a s).frame.length < 4 ∨ s.params.fifoCap < (gateRegs a s).frame.length) →
      exec (.gFifo a) s = .fault (.fifoLength (gateRegs a s).frame.length))

/-! ## Reset and the invariant -/

/-- Block reset leaves the block closed with no fault bit, both sequencers idle, no edge latched and the traces empty
(R45, R270). -/
def Obligations.ResetIsClosedAndIdle : Prop :=
  State.reset.session.isOpen = false ∧ State.reset.session.closing = false ∧
  State.reset.session.faultCipherLength = false ∧ State.reset.c.seq = .idle ∧ State.reset.h.seq = .idle ∧
  State.reset.radio.irqPend = false ∧ State.reset.resp = [] ∧ State.reset.deliv = [] ∧ State.reset.air = []

/-- The invariant holds right after block reset, whatever script is placed and whatever the parameters. -/
def Obligations.ResetSatisfiesInv : Prop :=
  ∀ (script : List Record) (par : Params), Inv { State.reset with script := script, params := par }

/-- Every micro-step keeps the invariant, from every state that has it. -/
def Obligations.EveryStepKeepsInv : Prop :=
  ∀ s t : State, Inv s → step s = .next t → Inv t

/-- No step of a state with the invariant meets the machine's one stopping fault: a gate's frame is always one that can be
written, and no failure is fatal (R9, R64, R283; the fault is log entry 15). The invariant holds at reset and every step
keeps it (`ResetSatisfiesInv`, `EveryStepKeepsInv`), so no run faults. -/
def Obligations.GoodStatesNeverFault : Prop :=
  ∀ s : State, Inv s → ∀ f, step s ≠ .fault f

/-- Nothing is stuck for good: in a state with the invariant, a sequencer in a waiting phase has an enabled micro-step once
the time base has reached that phase's own deadline, and in every other phase but its idle one it has one at once
(R71, R209, R283). -/
def Obligations.EveryHoldEndsAtItsDeadline : Prop :=
  ∀ s : State, Inv s →
    (s.c.seq = .gate .poll → s.c.gate.wdl ≤ s.now → ∃ t, exec .stepC s = .next t) ∧
    (s.c.seq = .gate .backoff → s.c.gate.bdl ≤ s.now → ∃ t, exec .stepC s = .next t) ∧
    (s.c.seq = .wWait → s.session.pendDeadline ≤ s.now → ∃ t, exec .stepC s = .next t) ∧
    (s.c.seq = .sWait → s.c.dl ≤ s.now → ∃ t, exec .stepC s = .next t) ∧
    (s.c.seq ≠ .idle → s.c.seq ≠ .gate .poll → s.c.seq ≠ .gate .backoff → s.c.seq ≠ .wWait → s.c.seq ≠ .sWait →
      ∃ t, exec .stepC s = .next t) ∧
    (s.h.seq = .gate .poll → s.h.gate.wdl ≤ s.now → ∃ t, exec .stepH s = .next t) ∧
    (s.h.seq = .gate .backoff → s.h.gate.bdl ≤ s.now → ∃ t, exec .stepH s = .next t) ∧
    (s.h.seq ≠ .idle → s.h.seq ≠ .gate .poll → s.h.seq ≠ .gate .backoff → ∃ t, exec .stepH s = .next t)

/-- In a quiescent block neither sequencer has a micro-step and no `CLOSE` is half done: only `HOST`, `RADIO` and
`CLOCK` can step (R283). -/
def Obligations.QuiescentSequencersHold : Prop :=
  ∀ s : State, quiescent s = true →
    exec .stepC s = .refused .hold ∧ exec .stepH s = .refused .hold ∧ exec .stepX s = .refused .notEnabled

/-! ## Rules over all instructions -/

/-- The configuration registers are written by `INIT`, which writes its operands into all of them or, refused, into none,
and by nothing else (R222). -/
def Obligations.OnlyInitConfigures : Prop :=
  (∀ (i : Instr) (s t : State), (∀ a b c d e f g, i ≠ .init a b c d e f g) → exec i s = .next t →
    t.session.thisAddr = s.session.thisAddr ∧ t.session.ackEn = s.session.ackEn ∧
    t.session.cipherEn = s.session.cipherEn ∧ t.session.txPower = s.session.txPower ∧
    t.session.preset = s.session.preset ∧ t.session.cadTimeout = s.session.cadTimeout ∧
    t.session.retryTimeout = s.session.retryTimeout ∧ t.session.wpsTimeout = s.session.wpsTimeout) ∧
  (∀ (addr cfg power preset : Byte) (cad retry wps : Ticks) (s t : State),
    exec (.init addr cfg power preset cad retry wps) s = .next t →
    t.session = s.session ∨
    (t.session.thisAddr = addr ∧ t.session.ackEn = cfg.getLsbD 0 ∧ t.session.cipherEn = cfg.getLsbD 1 ∧
      t.session.txPower = power ∧ t.session.preset = preset ∧ t.session.cadTimeout = cad ∧
      t.session.retryTimeout = retry ∧ t.session.wpsTimeout = wps))

/-- The mode is changed by the callers of `SetMode` and by nothing else, each to its own target (R149, R169). -/
def Obligations.ModeChangesOnlyAsListed : Prop :=
  ∀ (i : Instr) (s t : State), exec i s = .next t →
    t.session.mode = s.session.mode ∨
    (t.session.mode = .idle ∧
      (i = .modeIdle ∨ i = .hSent ∨ i = .irqSent ∨ (i = .stepH ∧ s.h.seq = .sent) ∨
        ∃ a b c d e f g, i = .init a b c d e f g)) ∨
    (t.session.mode = .receiving ∧ i = .modeRx) ∨
    (t.session.mode = .sleep ∧ (i = .sleep ∨ i = .stepX)) ∨
    (t.session.mode = .channelListen ∧
      ((∃ a, i = .gCad a) ∨ (i = .stepC ∧ s.c.seq = .gate .cad) ∨ (i = .stepH ∧ s.h.seq = .gate .cad))) ∨
    (t.session.mode = .transmitting ∧
      (i = .modeTx ∨ (∃ a, i = .gTrig a) ∨ (i = .stepC ∧ s.c.seq = .gate .trig) ∨
        (i = .stepH ∧ s.h.seq = .gate .trig)))

/-- The two contexts keep to their own registers: the caller sequencer touches no handler register, neither dispatched
flag, and sets neither signal; the handler touches no caller register, no response, and not the counter
(R46, R250, R253). -/
def Obligations.ContextsKeepToTheirOwn : Prop :=
  ∀ s t : State,
    (exec .stepC s = .next t →
      t.h = s.h ∧ t.deliv = s.deliv ∧ t.radio.irqf.txDone = s.radio.irqf.txDone ∧
      t.radio.irqf.rxDone = s.radio.irqf.rxDone ∧ (t.session.txDone = true → s.session.txDone = true) ∧
      (t.session.ackOk = true → s.session.ackOk = true)) ∧
    (exec .stepH s = .next t →
      t.c = s.c ∧ t.resp = s.resp ∧ t.session.lastId = s.session.lastId ∧ t.session.cbEn = s.session.cbEn ∧
      t.session.isOpen = s.session.isOpen ∧ (s.session.ackOk = true → t.session.ackOk = true) ∧
      (t.session.pendValid = true → s.session.pendValid = true))

/-- The traces only grow, by at most one record a step; time does not run back and moves by `EV.TICK` only; a fault bit
is never cleared (R29, R41, R42, R97); the parameters, which the model holds in its state, stay as given (R44; log
entries 2, 3). -/
def Obligations.TracesGrowAndFaultsStick : Prop :=
  ∀ (i : Instr) (s t : State), exec i s = .next t →
    (t.resp = s.resp ∨ ∃ r, t.resp = s.resp ++ [r]) ∧
    (t.deliv = s.deliv ∨ ∃ r, t.deliv = s.deliv ++ [r]) ∧
    (t.air = s.air ∨ i = .evTxdone ∧ t.air = s.air ++ [s.radio.txBytes]) ∧
    (t.now = s.now ∨ i = .evTick ∧ t.now = s.now + 1) ∧
    (s.session.faultCipherLength = true → t.session.faultCipherLength = true) ∧
    t.params = s.params

/-- Every byte of the FIFO is as before, for every instruction but a `G_FIFO` (run directly or by its sequencer's step
record), an `EV.RXDONE` and an `INIT`: nothing else writes the FIFO (R36, R64, R141). -/
def Obligations.OnlyStagingAndDepositWriteTheFifo : Prop :=
  ∀ (i : Instr) (s t : State), exec i s = .next t →
    (∀ a, i ≠ .gFifo a) → (∀ v rssi snr b, i ≠ .evRxdone v rssi snr b) →
    (∀ a b c d e f g, i ≠ .init a b c d e f g) →
    (i = .stepC → s.c.seq ≠ .gate .fifo) → (i = .stepH → s.h.seq ≠ .gate .fifo) →
    ∀ a, fifoByte t a = fifoByte s a
end

