-- ==== Sys2Proof/Laws/State.lean ====
section
/-! SUPPORT. One lemma per field per named update, so that no later proof unfolds a record update. -/

namespace Sys2Proof.Machine

open Sys2Proof

/-! ## `access` -/

@[simp] theorem access_session (a : PortAccess) (s : State) : (access a s).session = s.session := rfl
@[simp] theorem access_radio (a : PortAccess) (s : State) : (access a s).radio = s.radio := rfl
@[simp] theorem access_c (a : PortAccess) (s : State) : (access a s).c = s.c := rfl
@[simp] theorem access_h (a : PortAccess) (s : State) : (access a s).h = s.h := rfl
@[simp] theorem access_now (a : PortAccess) (s : State) : (access a s).now = s.now := rfl
@[simp] theorem access_resp (a : PortAccess) (s : State) : (access a s).resp = s.resp := rfl
@[simp] theorem access_deliv (a : PortAccess) (s : State) : (access a s).deliv = s.deliv := rfl
@[simp] theorem access_air (a : PortAccess) (s : State) : (access a s).air = s.air := rfl
@[simp] theorem access_port (a : PortAccess) (s : State) : (access a s).port = s.port ++ [a] := rfl
@[simp] theorem access_script (a : PortAccess) (s : State) : (access a s).script = s.script := rfl
@[simp] theorem access_draws (a : PortAccess) (s : State) : (access a s).draws = s.draws := rfl
@[simp] theorem access_params (a : PortAccess) (s : State) : (access a s).params = s.params := rfl

/-! ## `setIrqf` -/

@[simp] theorem setIrqf_session (f : IrqFlags) (s : State) : (setIrqf f s).session = s.session := rfl
@[simp] theorem setIrqf_radio (f : IrqFlags) (s : State) : (setIrqf f s).radio = { s.radio with irqf := f } := rfl
@[simp] theorem setIrqf_c (f : IrqFlags) (s : State) : (setIrqf f s).c = s.c := rfl
@[simp] theorem setIrqf_h (f : IrqFlags) (s : State) : (setIrqf f s).h = s.h := rfl
@[simp] theorem setIrqf_now (f : IrqFlags) (s : State) : (setIrqf f s).now = s.now := rfl
@[simp] theorem setIrqf_resp (f : IrqFlags) (s : State) : (setIrqf f s).resp = s.resp := rfl
@[simp] theorem setIrqf_deliv (f : IrqFlags) (s : State) : (setIrqf f s).deliv = s.deliv := rfl
@[simp] theorem setIrqf_air (f : IrqFlags) (s : State) : (setIrqf f s).air = s.air := rfl
@[simp] theorem setIrqf_port (f : IrqFlags) (s : State) : (setIrqf f s).port = s.port := rfl
@[simp] theorem setIrqf_script (f : IrqFlags) (s : State) : (setIrqf f s).script = s.script := rfl
@[simp] theorem setIrqf_draws (f : IrqFlags) (s : State) : (setIrqf f s).draws = s.draws := rfl
@[simp] theorem setIrqf_params (f : IrqFlags) (s : State) : (setIrqf f s).params = s.params := rfl

/-! ## `setTxDone` -/

@[simp] theorem setTxDone_session (v : Bool) (s : State) :
    (setTxDone v s).session = { s.session with txDone := v } := rfl
@[simp] theorem setTxDone_radio (v : Bool) (s : State) : (setTxDone v s).radio = s.radio := rfl
@[simp] theorem setTxDone_c (v : Bool) (s : State) : (setTxDone v s).c = s.c := rfl
@[simp] theorem setTxDone_h (v : Bool) (s : State) : (setTxDone v s).h = s.h := rfl
@[simp] theorem setTxDone_now (v : Bool) (s : State) : (setTxDone v s).now = s.now := rfl
@[simp] theorem setTxDone_resp (v : Bool) (s : State) : (setTxDone v s).resp = s.resp := rfl
@[simp] theorem setTxDone_deliv (v : Bool) (s : State) : (setTxDone v s).deliv = s.deliv := rfl
@[simp] theorem setTxDone_air (v : Bool) (s : State) : (setTxDone v s).air = s.air := rfl
@[simp] theorem setTxDone_port (v : Bool) (s : State) : (setTxDone v s).port = s.port := rfl
@[simp] theorem setTxDone_script (v : Bool) (s : State) : (setTxDone v s).script = s.script := rfl
@[simp] theorem setTxDone_draws (v : Bool) (s : State) : (setTxDone v s).draws = s.draws := rfl
@[simp] theorem setTxDone_params (v : Bool) (s : State) : (setTxDone v s).params = s.params := rfl

/-! ## `setAckOk` -/

@[simp] theorem setAckOk_session (v : Bool) (s : State) : (setAckOk v s).session = { s.session with ackOk := v } := rfl
@[simp] theorem setAckOk_radio (v : Bool) (s : State) : (setAckOk v s).radio = s.radio := rfl
@[simp] theorem setAckOk_c (v : Bool) (s : State) : (setAckOk v s).c = s.c := rfl
@[simp] theorem setAckOk_h (v : Bool) (s : State) : (setAckOk v s).h = s.h := rfl
@[simp] theorem setAckOk_now (v : Bool) (s : State) : (setAckOk v s).now = s.now := rfl
@[simp] theorem setAckOk_resp (v : Bool) (s : State) : (setAckOk v s).resp = s.resp := rfl
@[simp] theorem setAckOk_deliv (v : Bool) (s : State) : (setAckOk v s).deliv = s.deliv := rfl
@[simp] theorem setAckOk_air (v : Bool) (s : State) : (setAckOk v s).air = s.air := rfl
@[simp] theorem setAckOk_port (v : Bool) (s : State) : (setAckOk v s).port = s.port := rfl
@[simp] theorem setAckOk_script (v : Bool) (s : State) : (setAckOk v s).script = s.script := rfl
@[simp] theorem setAckOk_draws (v : Bool) (s : State) : (setAckOk v s).draws = s.draws := rfl
@[simp] theorem setAckOk_params (v : Bool) (s : State) : (setAckOk v s).params = s.params := rfl

/-! ## `faultCipherLength` -/

@[simp] theorem faultCipherLength_session (s : State) :
    (faultCipherLength s).session = { s.session with faultCipherLength := true } := rfl
@[simp] theorem faultCipherLength_radio (s : State) : (faultCipherLength s).radio = s.radio := rfl
@[simp] theorem faultCipherLength_c (s : State) : (faultCipherLength s).c = s.c := rfl
@[simp] theorem faultCipherLength_h (s : State) : (faultCipherLength s).h = s.h := rfl
@[simp] theorem faultCipherLength_now (s : State) : (faultCipherLength s).now = s.now := rfl
@[simp] theorem faultCipherLength_resp (s : State) : (faultCipherLength s).resp = s.resp := rfl
@[simp] theorem faultCipherLength_deliv (s : State) : (faultCipherLength s).deliv = s.deliv := rfl
@[simp] theorem faultCipherLength_air (s : State) : (faultCipherLength s).air = s.air := rfl
@[simp] theorem faultCipherLength_port (s : State) : (faultCipherLength s).port = s.port := rfl
@[simp] theorem faultCipherLength_script (s : State) : (faultCipherLength s).script = s.script := rfl
@[simp] theorem faultCipherLength_draws (s : State) : (faultCipherLength s).draws = s.draws := rfl
@[simp] theorem faultCipherLength_params (s : State) : (faultCipherLength s).params = s.params := rfl

/-! ## `respond` -/

@[simp] theorem respond_session (op : Byte) (code : Status) (data : Bytes) (s : State) :
    (respond op code data s).session = s.session := rfl
@[simp] theorem respond_radio (op : Byte) (code : Status) (data : Bytes) (s : State) :
    (respond op code data s).radio = s.radio := rfl
@[simp] theorem respond_c (op : Byte) (code : Status) (data : Bytes) (s : State) :
    (respond op code data s).c = s.c := rfl
@[simp] theorem respond_h (op : Byte) (code : Status) (data : Bytes) (s : State) :
    (respond op code data s).h = s.h := rfl
@[simp] theorem respond_now (op : Byte) (code : Status) (data : Bytes) (s : State) :
    (respond op code data s).now = s.now := rfl
@[simp] theorem respond_resp (op : Byte) (code : Status) (data : Bytes) (s : State) :
    (respond op code data s).resp = s.resp ++ [op :: statusCode code :: data] := rfl
@[simp] theorem respond_deliv (op : Byte) (code : Status) (data : Bytes) (s : State) :
    (respond op code data s).deliv = s.deliv := rfl
@[simp] theorem respond_air (op : Byte) (code : Status) (data : Bytes) (s : State) :
    (respond op code data s).air = s.air := rfl
@[simp] theorem respond_port (op : Byte) (code : Status) (data : Bytes) (s : State) :
    (respond op code data s).port = s.port := rfl
@[simp] theorem respond_script (op : Byte) (code : Status) (data : Bytes) (s : State) :
    (respond op code data s).script = s.script := rfl
@[simp] theorem respond_draws (op : Byte) (code : Status) (data : Bytes) (s : State) :
    (respond op code data s).draws = s.draws := rfl
@[simp] theorem respond_params (op : Byte) (code : Status) (data : Bytes) (s : State) :
    (respond op code data s).params = s.params := rfl

/-! ## `drawn` -/

@[simp] theorem drawn_session (s : State) : (drawn s).session = s.session := rfl
@[simp] theorem drawn_radio (s : State) : (drawn s).radio = s.radio := rfl
@[simp] theorem drawn_c (s : State) : (drawn s).c = s.c := rfl
@[simp] theorem drawn_h (s : State) : (drawn s).h = s.h := rfl
@[simp] theorem drawn_now (s : State) : (drawn s).now = s.now := rfl
@[simp] theorem drawn_resp (s : State) : (drawn s).resp = s.resp := rfl
@[simp] theorem drawn_deliv (s : State) : (drawn s).deliv = s.deliv := rfl
@[simp] theorem drawn_air (s : State) : (drawn s).air = s.air := rfl
@[simp] theorem drawn_port (s : State) : (drawn s).port = s.port := rfl
@[simp] theorem drawn_script (s : State) : (drawn s).script = s.script := rfl
@[simp] theorem drawn_draws (s : State) : (drawn s).draws = s.draws + 1 := rfl
@[simp] theorem drawn_params (s : State) : (drawn s).params = s.params := rfl

/-! ## `raiseIrq` -/

@[simp] theorem raiseIrq_session (f : IrqFlags) (s : State) : (raiseIrq f s).session = s.session := rfl
@[simp] theorem raiseIrq_radio (f : IrqFlags) (s : State) :
    (raiseIrq f s).radio = { s.radio with irqf := f, irqPend := true } := rfl
@[simp] theorem raiseIrq_c (f : IrqFlags) (s : State) : (raiseIrq f s).c = s.c := rfl
@[simp] theorem raiseIrq_h (f : IrqFlags) (s : State) : (raiseIrq f s).h = s.h := rfl
@[simp] theorem raiseIrq_now (f : IrqFlags) (s : State) : (raiseIrq f s).now = s.now := rfl
@[simp] theorem raiseIrq_resp (f : IrqFlags) (s : State) : (raiseIrq f s).resp = s.resp := rfl
@[simp] theorem raiseIrq_deliv (f : IrqFlags) (s : State) : (raiseIrq f s).deliv = s.deliv := rfl
@[simp] theorem raiseIrq_air (f : IrqFlags) (s : State) : (raiseIrq f s).air = s.air := rfl
@[simp] theorem raiseIrq_port (f : IrqFlags) (s : State) : (raiseIrq f s).port = s.port := rfl
@[simp] theorem raiseIrq_script (f : IrqFlags) (s : State) : (raiseIrq f s).script = s.script := rfl
@[simp] theorem raiseIrq_draws (f : IrqFlags) (s : State) : (raiseIrq f s).draws = s.draws := rfl
@[simp] theorem raiseIrq_params (f : IrqFlags) (s : State) : (raiseIrq f s).params = s.params := rfl

/-! ## `enterHandler` -/

@[simp] theorem enterHandler_session (s : State) : (enterHandler s).session = s.session := rfl
@[simp] theorem enterHandler_radio (s : State) : (enterHandler s).radio = { s.radio with irqPend := false } := rfl
@[simp] theorem enterHandler_c (s : State) : (enterHandler s).c = s.c := rfl
@[simp] theorem enterHandler_h (s : State) : (enterHandler s).h = { s.h with seq := .flags } := rfl
@[simp] theorem enterHandler_now (s : State) : (enterHandler s).now = s.now := rfl
@[simp] theorem enterHandler_resp (s : State) : (enterHandler s).resp = s.resp := rfl
@[simp] theorem enterHandler_deliv (s : State) : (enterHandler s).deliv = s.deliv := rfl
@[simp] theorem enterHandler_air (s : State) : (enterHandler s).air = s.air := rfl
@[simp] theorem enterHandler_port (s : State) : (enterHandler s).port = s.port := rfl
@[simp] theorem enterHandler_script (s : State) : (enterHandler s).script = s.script := rfl
@[simp] theorem enterHandler_draws (s : State) : (enterHandler s).draws = s.draws := rfl
@[simp] theorem enterHandler_params (s : State) : (enterHandler s).params = s.params := rfl

/-! ## `setHPhase` -/

@[simp] theorem setHPhase_session (p : HPhase) (s : State) : (setHPhase p s).session = s.session := rfl
@[simp] theorem setHPhase_radio (p : HPhase) (s : State) : (setHPhase p s).radio = s.radio := rfl
@[simp] theorem setHPhase_c (p : HPhase) (s : State) : (setHPhase p s).c = s.c := rfl
@[simp] theorem setHPhase_h (p : HPhase) (s : State) : (setHPhase p s).h = { s.h with seq := p } := rfl
@[simp] theorem setHPhase_now (p : HPhase) (s : State) : (setHPhase p s).now = s.now := rfl
@[simp] theorem setHPhase_resp (p : HPhase) (s : State) : (setHPhase p s).resp = s.resp := rfl
@[simp] theorem setHPhase_deliv (p : HPhase) (s : State) : (setHPhase p s).deliv = s.deliv := rfl
@[simp] theorem setHPhase_air (p : HPhase) (s : State) : (setHPhase p s).air = s.air := rfl
@[simp] theorem setHPhase_port (p : HPhase) (s : State) : (setHPhase p s).port = s.port := rfl
@[simp] theorem setHPhase_script (p : HPhase) (s : State) : (setHPhase p s).script = s.script := rfl
@[simp] theorem setHPhase_draws (p : HPhase) (s : State) : (setHPhase p s).draws = s.draws := rfl
@[simp] theorem setHPhase_params (p : HPhase) (s : State) : (setHPhase p s).params = s.params := rfl

/-! ## `setCPhase` -/

@[simp] theorem setCPhase_session (p : CPhase) (s : State) : (setCPhase p s).session = s.session := rfl
@[simp] theorem setCPhase_radio (p : CPhase) (s : State) : (setCPhase p s).radio = s.radio := rfl
@[simp] theorem setCPhase_c (p : CPhase) (s : State) : (setCPhase p s).c = { s.c with seq := p } := rfl
@[simp] theorem setCPhase_h (p : CPhase) (s : State) : (setCPhase p s).h = s.h := rfl
@[simp] theorem setCPhase_now (p : CPhase) (s : State) : (setCPhase p s).now = s.now := rfl
@[simp] theorem setCPhase_resp (p : CPhase) (s : State) : (setCPhase p s).resp = s.resp := rfl
@[simp] theorem setCPhase_deliv (p : CPhase) (s : State) : (setCPhase p s).deliv = s.deliv := rfl
@[simp] theorem setCPhase_air (p : CPhase) (s : State) : (setCPhase p s).air = s.air := rfl
@[simp] theorem setCPhase_port (p : CPhase) (s : State) : (setCPhase p s).port = s.port := rfl
@[simp] theorem setCPhase_script (p : CPhase) (s : State) : (setCPhase p s).script = s.script := rfl
@[simp] theorem setCPhase_draws (p : CPhase) (s : State) : (setCPhase p s).draws = s.draws := rfl
@[simp] theorem setCPhase_params (p : CPhase) (s : State) : (setCPhase p s).params = s.params := rfl

/-! ## `leaveHandler` -/

@[simp] theorem leaveHandler_session (s : State) : (leaveHandler s).session = s.session := rfl
@[simp] theorem leaveHandler_radio (s : State) : (leaveHandler s).radio = s.radio := rfl
@[simp] theorem leaveHandler_c (s : State) : (leaveHandler s).c = s.c := rfl
@[simp] theorem leaveHandler_h (s : State) : (leaveHandler s).h = { s.h with seq := .idle } := rfl
@[simp] theorem leaveHandler_now (s : State) : (leaveHandler s).now = s.now := rfl
@[simp] theorem leaveHandler_resp (s : State) : (leaveHandler s).resp = s.resp := rfl
@[simp] theorem leaveHandler_deliv (s : State) : (leaveHandler s).deliv = s.deliv := rfl
@[simp] theorem leaveHandler_air (s : State) : (leaveHandler s).air = s.air := rfl
@[simp] theorem leaveHandler_port (s : State) : (leaveHandler s).port = s.port := rfl
@[simp] theorem leaveHandler_script (s : State) : (leaveHandler s).script = s.script := rfl
@[simp] theorem leaveHandler_draws (s : State) : (leaveHandler s).draws = s.draws := rfl
@[simp] theorem leaveHandler_params (s : State) : (leaveHandler s).params = s.params := rfl

/-! ## `dropFrame` -/

@[simp] theorem dropFrame_session (r : Status) (s : State) : (dropFrame r s).session = s.session := rfl
@[simp] theorem dropFrame_radio (r : Status) (s : State) : (dropFrame r s).radio = s.radio := rfl
@[simp] theorem dropFrame_c (r : Status) (s : State) : (dropFrame r s).c = s.c := rfl
@[simp] theorem dropFrame_h (r : Status) (s : State) : (dropFrame r s).h = { s.h with seq := .idle } := rfl
@[simp] theorem dropFrame_now (r : Status) (s : State) : (dropFrame r s).now = s.now := rfl
@[simp] theorem dropFrame_resp (r : Status) (s : State) : (dropFrame r s).resp = s.resp := rfl
@[simp] theorem dropFrame_deliv (r : Status) (s : State) : (dropFrame r s).deliv = s.deliv := rfl
@[simp] theorem dropFrame_air (r : Status) (s : State) : (dropFrame r s).air = s.air := rfl
@[simp] theorem dropFrame_port (r : Status) (s : State) : (dropFrame r s).port = s.port := rfl
@[simp] theorem dropFrame_script (r : Status) (s : State) : (dropFrame r s).script = s.script := rfl
@[simp] theorem dropFrame_draws (r : Status) (s : State) : (dropFrame r s).draws = s.draws := rfl
@[simp] theorem dropFrame_params (r : Status) (s : State) : (dropFrame r s).params = s.params := rfl

/-! ## `keepPacket` -/

@[simp] theorem keepPacket_session (p : Header) (m : Bytes) (s : State) : (keepPacket p m s).session = s.session := rfl
@[simp] theorem keepPacket_radio (p : Header) (m : Bytes) (s : State) : (keepPacket p m s).radio = s.radio := rfl
@[simp] theorem keepPacket_c (p : Header) (m : Bytes) (s : State) : (keepPacket p m s).c = s.c := rfl
@[simp] theorem keepPacket_h (p : Header) (m : Bytes) (s : State) :
    (keepPacket p m s).h = { s.h with hdr := p, msg := m } := rfl
@[simp] theorem keepPacket_now (p : Header) (m : Bytes) (s : State) : (keepPacket p m s).now = s.now := rfl
@[simp] theorem keepPacket_resp (p : Header) (m : Bytes) (s : State) : (keepPacket p m s).resp = s.resp := rfl
@[simp] theorem keepPacket_deliv (p : Header) (m : Bytes) (s : State) : (keepPacket p m s).deliv = s.deliv := rfl
@[simp] theorem keepPacket_air (p : Header) (m : Bytes) (s : State) : (keepPacket p m s).air = s.air := rfl
@[simp] theorem keepPacket_port (p : Header) (m : Bytes) (s : State) : (keepPacket p m s).port = s.port := rfl
@[simp] theorem keepPacket_script (p : Header) (m : Bytes) (s : State) : (keepPacket p m s).script = s.script := rfl
@[simp] theorem keepPacket_draws (p : Header) (m : Bytes) (s : State) : (keepPacket p m s).draws = s.draws := rfl
@[simp] theorem keepPacket_params (p : Header) (m : Bytes) (s : State) : (keepPacket p m s).params = s.params := rfl

/-! ## `startCaller` -/

@[simp] theorem startCaller_session (op : COp) (f : Bytes) (s : State) : (startCaller op f s).session = s.session := rfl
@[simp] theorem startCaller_radio (op : COp) (f : Bytes) (s : State) : (startCaller op f s).radio = s.radio := rfl
@[simp] theorem startCaller_c (op : COp) (f : Bytes) (s : State) :
    (startCaller op f s).c = { s.c with seq := .gate .start, op := op, gate := { s.c.gate with frame := f } } := rfl
@[simp] theorem startCaller_h (op : COp) (f : Bytes) (s : State) : (startCaller op f s).h = s.h := rfl
@[simp] theorem startCaller_now (op : COp) (f : Bytes) (s : State) : (startCaller op f s).now = s.now := rfl
@[simp] theorem startCaller_resp (op : COp) (f : Bytes) (s : State) : (startCaller op f s).resp = s.resp := rfl
@[simp] theorem startCaller_deliv (op : COp) (f : Bytes) (s : State) : (startCaller op f s).deliv = s.deliv := rfl
@[simp] theorem startCaller_air (op : COp) (f : Bytes) (s : State) : (startCaller op f s).air = s.air := rfl
@[simp] theorem startCaller_port (op : COp) (f : Bytes) (s : State) : (startCaller op f s).port = s.port := rfl
@[simp] theorem startCaller_script (op : COp) (f : Bytes) (s : State) : (startCaller op f s).script = s.script := rfl
@[simp] theorem startCaller_draws (op : COp) (f : Bytes) (s : State) : (startCaller op f s).draws = s.draws := rfl
@[simp] theorem startCaller_params (op : COp) (f : Bytes) (s : State) : (startCaller op f s).params = s.params := rfl

/-! ## `clearTxDoneFlag` -/

@[simp] theorem clearTxDoneFlag_session (s : State) : (clearTxDoneFlag s).session = s.session := rfl
@[simp] theorem clearTxDoneFlag_radio (s : State) :
    (clearTxDoneFlag s).radio = { s.radio with irqf := { s.radio.irqf with txDone := false } } := rfl
@[simp] theorem clearTxDoneFlag_c (s : State) : (clearTxDoneFlag s).c = s.c := rfl
@[simp] theorem clearTxDoneFlag_h (s : State) : (clearTxDoneFlag s).h = s.h := rfl
@[simp] theorem clearTxDoneFlag_now (s : State) : (clearTxDoneFlag s).now = s.now := rfl
@[simp] theorem clearTxDoneFlag_resp (s : State) : (clearTxDoneFlag s).resp = s.resp := rfl
@[simp] theorem clearTxDoneFlag_deliv (s : State) : (clearTxDoneFlag s).deliv = s.deliv := rfl
@[simp] theorem clearTxDoneFlag_air (s : State) : (clearTxDoneFlag s).air = s.air := rfl
@[simp] theorem clearTxDoneFlag_port (s : State) : (clearTxDoneFlag s).port = s.port ++ [.clearTxDone] := rfl
@[simp] theorem clearTxDoneFlag_script (s : State) : (clearTxDoneFlag s).script = s.script := rfl
@[simp] theorem clearTxDoneFlag_draws (s : State) : (clearTxDoneFlag s).draws = s.draws := rfl
@[simp] theorem clearTxDoneFlag_params (s : State) : (clearTxDoneFlag s).params = s.params := rfl

/-! ## `clearRxDoneFlag` -/

@[simp] theorem clearRxDoneFlag_session (s : State) : (clearRxDoneFlag s).session = s.session := rfl
@[simp] theorem clearRxDoneFlag_radio (s : State) :
    (clearRxDoneFlag s).radio = { s.radio with irqf := { s.radio.irqf with rxDone := false } } := rfl
@[simp] theorem clearRxDoneFlag_c (s : State) : (clearRxDoneFlag s).c = s.c := rfl
@[simp] theorem clearRxDoneFlag_h (s : State) : (clearRxDoneFlag s).h = s.h := rfl
@[simp] theorem clearRxDoneFlag_now (s : State) : (clearRxDoneFlag s).now = s.now := rfl
@[simp] theorem clearRxDoneFlag_resp (s : State) : (clearRxDoneFlag s).resp = s.resp := rfl
@[simp] theorem clearRxDoneFlag_deliv (s : State) : (clearRxDoneFlag s).deliv = s.deliv := rfl
@[simp] theorem clearRxDoneFlag_air (s : State) : (clearRxDoneFlag s).air = s.air := rfl
@[simp] theorem clearRxDoneFlag_port (s : State) : (clearRxDoneFlag s).port = s.port ++ [.clearRxDone] := rfl
@[simp] theorem clearRxDoneFlag_script (s : State) : (clearRxDoneFlag s).script = s.script := rfl
@[simp] theorem clearRxDoneFlag_draws (s : State) : (clearRxDoneFlag s).draws = s.draws := rfl
@[simp] theorem clearRxDoneFlag_params (s : State) : (clearRxDoneFlag s).params = s.params := rfl

/-! ## `clearCadFlags` -/

@[simp] theorem clearCadFlags_session (s : State) : (clearCadFlags s).session = s.session := rfl
@[simp] theorem clearCadFlags_radio (s : State) :
    (clearCadFlags s).radio = { s.radio with irqf := { s.radio.irqf with cadDone := false, cadDetected := false } } := rfl
@[simp] theorem clearCadFlags_c (s : State) : (clearCadFlags s).c = s.c := rfl
@[simp] theorem clearCadFlags_h (s : State) : (clearCadFlags s).h = s.h := rfl
@[simp] theorem clearCadFlags_now (s : State) : (clearCadFlags s).now = s.now := rfl
@[simp] theorem clearCadFlags_resp (s : State) : (clearCadFlags s).resp = s.resp := rfl
@[simp] theorem clearCadFlags_deliv (s : State) : (clearCadFlags s).deliv = s.deliv := rfl
@[simp] theorem clearCadFlags_air (s : State) : (clearCadFlags s).air = s.air := rfl
@[simp] theorem clearCadFlags_port (s : State) : (clearCadFlags s).port = s.port ++ [.clearCad] := rfl
@[simp] theorem clearCadFlags_script (s : State) : (clearCadFlags s).script = s.script := rfl
@[simp] theorem clearCadFlags_draws (s : State) : (clearCadFlags s).draws = s.draws := rfl
@[simp] theorem clearCadFlags_params (s : State) : (clearCadFlags s).params = s.params := rfl

/-! ## `setGateRegs` -/

@[simp] theorem setGateRegs_session (a : Sequencer) (g : GateRegs) (s : State) :
    (setGateRegs a g s).session = s.session := by cases a <;> rfl
@[simp] theorem setGateRegs_radio (a : Sequencer) (g : GateRegs) (s : State) :
    (setGateRegs a g s).radio = s.radio := by cases a <;> rfl
@[simp] theorem setGateRegs_c_of_c (g : GateRegs) (s : State) :
    (setGateRegs .c g s).c = { s.c with gate := g } := rfl
@[simp] theorem setGateRegs_c_of_h (g : GateRegs) (s : State) :
    (setGateRegs .h g s).c = s.c := rfl
@[simp] theorem setGateRegs_h_of_c (g : GateRegs) (s : State) :
    (setGateRegs .c g s).h = s.h := rfl
@[simp] theorem setGateRegs_h_of_h (g : GateRegs) (s : State) :
    (setGateRegs .h g s).h = { s.h with gate := g } := rfl
@[simp] theorem setGateRegs_now (a : Sequencer) (g : GateRegs) (s : State) :
    (setGateRegs a g s).now = s.now := by cases a <;> rfl
@[simp] theorem setGateRegs_resp (a : Sequencer) (g : GateRegs) (s : State) :
    (setGateRegs a g s).resp = s.resp := by cases a <;> rfl
@[simp] theorem setGateRegs_deliv (a : Sequencer) (g : GateRegs) (s : State) :
    (setGateRegs a g s).deliv = s.deliv := by cases a <;> rfl
@[simp] theorem setGateRegs_air (a : Sequencer) (g : GateRegs) (s : State) :
    (setGateRegs a g s).air = s.air := by cases a <;> rfl
@[simp] theorem setGateRegs_port (a : Sequencer) (g : GateRegs) (s : State) :
    (setGateRegs a g s).port = s.port := by cases a <;> rfl
@[simp] theorem setGateRegs_script (a : Sequencer) (g : GateRegs) (s : State) :
    (setGateRegs a g s).script = s.script := by cases a <;> rfl
@[simp] theorem setGateRegs_draws (a : Sequencer) (g : GateRegs) (s : State) :
    (setGateRegs a g s).draws = s.draws := by cases a <;> rfl
@[simp] theorem setGateRegs_params (a : Sequencer) (g : GateRegs) (s : State) :
    (setGateRegs a g s).params = s.params := by cases a <;> rfl

/-! ## `setGatePhase` -/

@[simp] theorem setGatePhase_session (a : Sequencer) (p : GatePhase) (s : State) :
    (setGatePhase a p s).session = s.session := by cases a <;> rfl
@[simp] theorem setGatePhase_radio (a : Sequencer) (p : GatePhase) (s : State) :
    (setGatePhase a p s).radio = s.radio := by cases a <;> rfl
@[simp] theorem setGatePhase_c_of_c (p : GatePhase) (s : State) :
    (setGatePhase .c p s).c = { s.c with seq := .gate p } := rfl
@[simp] theorem setGatePhase_c_of_h (p : GatePhase) (s : State) :
    (setGatePhase .h p s).c = s.c := rfl
@[simp] theorem setGatePhase_h_of_c (p : GatePhase) (s : State) :
    (setGatePhase .c p s).h = s.h := rfl
@[simp] theorem setGatePhase_h_of_h (p : GatePhase) (s : State) :
    (setGatePhase .h p s).h = { s.h with seq := .gate p } := rfl
@[simp] theorem setGatePhase_now (a : Sequencer) (p : GatePhase) (s : State) :
    (setGatePhase a p s).now = s.now := by cases a <;> rfl
@[simp] theorem setGatePhase_resp (a : Sequencer) (p : GatePhase) (s : State) :
    (setGatePhase a p s).resp = s.resp := by cases a <;> rfl
@[simp] theorem setGatePhase_deliv (a : Sequencer) (p : GatePhase) (s : State) :
    (setGatePhase a p s).deliv = s.deliv := by cases a <;> rfl
@[simp] theorem setGatePhase_air (a : Sequencer) (p : GatePhase) (s : State) :
    (setGatePhase a p s).air = s.air := by cases a <;> rfl
@[simp] theorem setGatePhase_port (a : Sequencer) (p : GatePhase) (s : State) :
    (setGatePhase a p s).port = s.port := by cases a <;> rfl
@[simp] theorem setGatePhase_script (a : Sequencer) (p : GatePhase) (s : State) :
    (setGatePhase a p s).script = s.script := by cases a <;> rfl
@[simp] theorem setGatePhase_draws (a : Sequencer) (p : GatePhase) (s : State) :
    (setGatePhase a p s).draws = s.draws := by cases a <;> rfl
@[simp] theorem setGatePhase_params (a : Sequencer) (p : GatePhase) (s : State) :
    (setGatePhase a p s).params = s.params := by cases a <;> rfl

/-! ## `leaveGate` -/

@[simp] theorem leaveGate_session (a : Sequencer) (s : State) :
    (leaveGate a s).session = s.session := by cases a <;> rfl
@[simp] theorem leaveGate_radio (a : Sequencer) (s : State) :
    (leaveGate a s).radio = s.radio := by cases a <;> rfl
@[simp] theorem leaveGate_c_of_c (s : State) :
    (leaveGate .c s).c = { s.c with seq := .after } := rfl
@[simp] theorem leaveGate_c_of_h (s : State) :
    (leaveGate .h s).c = s.c := rfl
@[simp] theorem leaveGate_h_of_c (s : State) :
    (leaveGate .c s).h = s.h := rfl
@[simp] theorem leaveGate_h_of_h (s : State) :
    (leaveGate .h s).h = { s.h with seq := .deliver } := rfl
@[simp] theorem leaveGate_now (a : Sequencer) (s : State) :
    (leaveGate a s).now = s.now := by cases a <;> rfl
@[simp] theorem leaveGate_resp (a : Sequencer) (s : State) :
    (leaveGate a s).resp = s.resp := by cases a <;> rfl
@[simp] theorem leaveGate_deliv (a : Sequencer) (s : State) :
    (leaveGate a s).deliv = s.deliv := by cases a <;> rfl
@[simp] theorem leaveGate_air (a : Sequencer) (s : State) :
    (leaveGate a s).air = s.air := by cases a <;> rfl
@[simp] theorem leaveGate_port (a : Sequencer) (s : State) :
    (leaveGate a s).port = s.port := by cases a <;> rfl
@[simp] theorem leaveGate_script (a : Sequencer) (s : State) :
    (leaveGate a s).script = s.script := by cases a <;> rfl
@[simp] theorem leaveGate_draws (a : Sequencer) (s : State) :
    (leaveGate a s).draws = s.draws := by cases a <;> rfl
@[simp] theorem leaveGate_params (a : Sequencer) (s : State) :
    (leaveGate a s).params = s.params := by cases a <;> rfl

end Sys2Proof.Machine
end

