-- ==== Sys2Proof/Laws/Ops.lean ====
section
/-! SUPPORT. One lemma per shared operation that says what it can do; later proofs cite these and do not unfold. -/

namespace Sys2Proof

/-! ## Parameters -/

@[simp] theorem Params.default_fifoCap : Params.fifoCap {} = 255 := rfl

@[simp] theorem Params.default_ackMask : Params.ackMask {} = 0x80 := rfl

/-- `FIFO_CAP` is at least `HDR_LEN` (R4). -/
theorem Params.le_fifoCap (p : Params) : 4 ≤ p.fifoCap := Nat.le_add_right 4 _

/-- `FIFO_CAP` is at most 255 (R4, R34). -/
theorem Params.fifoCap_le (p : Params) : p.fifoCap ≤ 255 := by
  have h := p.fifoExtra.isLt
  unfold Params.fifoCap
  change 4 + p.fifoExtra.val ≤ 255
  omega

/-- `ACK_MASK` has exactly one bit set (R4). -/
theorem Params.ackMask_getLsbD (p : Params) (i : Nat) : p.ackMask.getLsbD i = decide (p.ackBit.val = i) := by
  have h := p.ackBit.isLt
  simp only [Params.ackMask, BitVec.getLsbD_twoPow, h, decide_true, Bool.true_and]

end Sys2Proof

namespace Sys2Proof.Machine

open Sys2Proof

/-! ## Answers -/

theorem stepIf_eq_next {b : Bool} {r : Refusal} {n t : State} :
    stepIf b r n = .next t ↔ b = true ∧ n = t := by
  unfold stepIf
  cases b <;> simp

theorem stepIf_ne_fault {b : Bool} {r : Refusal} {n : State} {f : Fault} : stepIf b r n ≠ .fault f := by
  unfold stepIf
  cases b <;> simp

/-- A command is refused `Closed`, refused `Busy`, or runs. -/
theorem accept_cases (op : Byte) (q : Bool) (s run : State) :
    (s.session.isOpen = false ∧ accept op q s run = respond op .closed [] s) ∨
    (s.session.isOpen = true ∧ q = true ∧ s.c.seq ≠ .idle ∧ accept op q s run = respond op .busy [] s) ∨
    (s.session.isOpen = true ∧ (q = true → s.c.seq = .idle) ∧ accept op q s run = run) := by
  unfold accept
  by_cases ho : s.session.isOpen = true
  · by_cases hq : q = true
    · by_cases hs : s.c.seq = .idle <;> simp [ho, hq, hs]
    · simp [ho, Bool.eq_false_iff.mpr hq]
  · simp [Bool.eq_false_iff.mpr ho]

theorem accept_open {op : Byte} {q : Bool} {s run : State} (ho : s.session.isOpen = true)
    (hs : q = true → s.c.seq = .idle) : accept op q s run = run := by
  unfold accept
  cases q <;> simp_all

/-- The reserved ACK bit of a `flags` byte (R91). -/
theorem isAck_iff (par : Params) (flags : Byte) : isAck par flags = true ↔ flags &&& par.ackMask ≠ 0 :=
  decide_eq_true_iff

/-! ## Draws -/

@[simp] theorem freeBytes_length (k n : Nat) : (freeBytes k n).length = n := by simp [freeBytes]

theorem freeString_length (k : Nat) : (freeString k).length ≤ 255 := by
  have h := Nat.mod_lt (Config.freeNat k 0) (y := Config.fifoMax + 1) (by decide)
  simp only [freeString, freeBytes_length]
  have : Config.fifoMax = 255 := rfl
  omega

/-- A drawn back-off interval is at most `BACKOFF_MAX` (R206). -/
theorem freeInterval_le (k : Nat) : freeInterval k ≤ Config.backoffMax :=
  Nat.le_of_lt_succ (Nat.mod_lt _ (Nat.succ_pos _))

/-! ## The FIFO -/

/-- Everything `FifoWrite` can do. -/
theorem fifoWrite_spec (b : Bytes) (s : State) :
    (fifoWrite b s).radio.fifo = b ∧ (fifoWrite b s).radio.fifoSrc = .tx ∧
    (s.radio.txInflight = false → (fifoWrite b s).radio.txBytes = s.radio.txBytes ∧ (fifoWrite b s).draws = s.draws) ∧
    (s.radio.txInflight = true →
      (fifoWrite b s).radio.txBytes = freeString s.draws ∧ (fifoWrite b s).draws = s.draws + 1) ∧
    fifoWrite b s =
      { s with
        radio :=
          { s.radio with fifo := b, fifoSrc := .tx, txBytes := (fifoWrite b s).radio.txBytes }
        port := s.port ++ [.fifoWrite b]
        draws := (fifoWrite b s).draws } := by
  unfold fifoWrite spoilTransmission
  by_cases h : s.radio.txInflight = true
  · simp [h, access, drawn]
  · simp [Bool.eq_false_iff.mpr h, access]

/-- `FifoRead(n)` returns `n` bytes (R64). -/
theorem fifoReadBytes_length (n : Nat) (s : State) : (fifoReadBytes n s).length = n := by
  unfold fifoReadBytes fifoReadable
  split
  · next h => simp only [decide_eq_true_eq] at h; simp [h.2]
  · simp

/-- `FifoRead` leaves everything but the port trace and the draw count. -/
theorem fifoReadState_frame (n : Nat) (s : State) :
    (fifoReadState n s).session = s.session ∧ (fifoReadState n s).radio = s.radio ∧ (fifoReadState n s).c = s.c ∧
    (fifoReadState n s).h = s.h ∧ (fifoReadState n s).now = s.now ∧ (fifoReadState n s).resp = s.resp ∧
    (fifoReadState n s).deliv = s.deliv ∧ (fifoReadState n s).air = s.air ∧
    (fifoReadState n s).script = s.script ∧ (fifoReadState n s).params = s.params := by
  unfold fifoReadState
  split <;> simp

/-- `FifoWrite` keeps the form of the FIFO space. -/
theorem fifoWrite_keeps_wf (b : Bytes) (s : State) (hb : fifoWritable s.params b = true) :
    Memory.wf (fifoWrite b s) = true := by
  simp only [fifoWritable, decide_eq_true_eq] at hb
  simp only [Memory.wf, (fifoWrite_spec b s).1, decide_eq_true_eq]
  exact Nat.le_trans hb.2 s.params.fifoCap_le

theorem fifoReadState_keeps_wf (n : Nat) (s : State) (h : Memory.wf s = true) : Memory.wf (fifoReadState n s) = true := by
  unfold Memory.wf at *
  rw [(fifoReadState_frame n s).2.1]
  exact h

/-- A deposit of at most 255 bytes keeps the form of the FIFO space. -/
theorem deposit_keeps_size (v : Bool) (rssi snr : Byte) (b : Bytes) (r : Radio) (hb : b.length ≤ Config.fifoMax) :
    (deposit v rssi snr b r).fifo.length ≤ Config.fifoMax := hb

theorem reset_memory_wf : Memory.wf State.reset = true := by decide

/-! ## The mode transition -/

/-- What `SetMode` leaves alone (R141). -/
theorem setMode_frame (m : Mode) (s : State) :
    (setMode m s).c = s.c ∧ (setMode m s).h = s.h ∧ (setMode m s).now = s.now ∧ (setMode m s).resp = s.resp ∧
    (setMode m s).deliv = s.deliv ∧ (setMode m s).air = s.air ∧ (setMode m s).script = s.script ∧
    (setMode m s).params = s.params ∧
    (setMode m s).radio.fifo = s.radio.fifo ∧ (setMode m s).radio.fifoSrc = s.radio.fifoSrc ∧
    (setMode m s).radio.rxNb = s.radio.rxNb ∧ (setMode m s).radio.irqPend = s.radio.irqPend ∧
    (setMode m s).radio.irqf.txDone = s.radio.irqf.txDone ∧ (setMode m s).radio.irqf.rxDone = s.radio.irqf.rxDone ∧
    (setMode m s).session =
      { s.session with mode := m, txDone := s.session.txDone && decide (m ≠ .transmitting) } := by
  cases m
  case transmitting =>
    by_cases h : s.radio.fifoSrc = .tx <;>
      simp [setMode, enterMode, cancelInflight, latchTransmission, setTxDone, access, drawn, h]
  all_goals
    simp [setMode, enterMode, cancelInflight, startDetection, clearCadFlags, setIrqf, access]

/-- What `SetMode` does to the work in flight (R141). -/
theorem setMode_inflight (m : Mode) (s : State) :
    (setMode m s).radio.txInflight = decide (m = .transmitting) ∧
    (setMode m s).radio.cadInflight = decide (m = .channelListen) ∧
    ((setMode m s).radio.txBytes = s.radio.txBytes ∨
      m = .transmitting ∧ s.radio.fifoSrc = .tx ∧ (setMode m s).radio.txBytes = s.radio.fifo ∨
      m = .transmitting ∧ s.radio.fifoSrc ≠ .tx ∧ (setMode m s).radio.txBytes = freeString s.draws) := by
  cases m
  case transmitting =>
    by_cases h : s.radio.fifoSrc = .tx <;>
      simp [setMode, enterMode, cancelInflight, latchTransmission, setTxDone, access, drawn, h]
  all_goals
    simp [setMode, enterMode, cancelInflight, startDetection, clearCadFlags, setIrqf, access]

/-- `SetMode` keeps the form of the FIFO space: it does not touch the FIFO. -/
theorem setMode_keeps_wf (m : Mode) (s : State) (h : Memory.wf s = true) : Memory.wf (setMode m s) = true := by
  unfold Memory.wf at *
  rw [(setMode_frame m s).2.2.2.2.2.2.2.2.1]
  exact h

/-! ## Fetching -/

/-- What `fetch` answers: the decoded instruction of the next record, with the record consumed. -/
theorem fetch_eq_ok {s t : State} {i : Instr} :
    fetch s = .ok (i, t) ↔
      ∃ r later, s.script = r :: later ∧ decode s.params (.record r) = some i ∧ t = { s with script := later } := by
  unfold fetch
  cases hs : s.script with
  | nil => simp
  | cons r later =>
    cases hd : decode s.params (.record r) with
    | none => simp [hd]
    | some j => simp [hd, eq_comm]

/-! ## The codec -/

@[simp] theorem Cipher.enc_length (c : Cipher) (x : Bytes) : (c.enc x).length = x.length := by simp [Cipher.enc]

@[simp] theorem Cipher.dec_length (c : Cipher) (x : Bytes) : (c.dec x).length = x.length := by simp [Cipher.dec]

@[simp] theorem headerBytes_length (h : Header) : (headerBytes h).length = 4 := rfl

/-- What `Encode` returns (R121, R123). -/
theorem encodeWith_eq_some {cap : Nat} {c : Option Cipher} {fill p f : Bytes} {h : Header} :
    encodeWith cap c fill h p = some f ↔
      encLen c p.length ≤ cap ∧ f = headerBytes h ++ encodeBody c fill p := by
  unfold encodeWith
  split <;> simp_all [eq_comm]

/-- `Encode` of an empty payload is the four header bytes, with or without a cipher (R121, R191). -/
theorem encodeFrame_empty (h : Header) (s : State) : encodeFrame h [] s = some (headerBytes h) := by
  have hcap := s.params.le_fifoCap
  unfold encodeFrame encodeWith
  cases hc : sessionCipher s with
  | none => simp [encLen, padLen, encodeBody, Config.hdrLen, hcap]
  | some k => simp [encLen, padLen, encodeBody, Config.hdrLen, hcap, freeBytes, Cipher.enc]

/-- A frame is split after its header. -/
@[simp] theorem splitHeader_append (h : Header) (b : Bytes) : splitHeader (headerBytes h ++ b) = some (h, b) := rfl

end Sys2Proof.Machine
end

