-- ==== Sys2Proof/Laws/PerInstr.lean ====
section
/-! SUPPORT. Facts about every instruction as syntax, one lemma per constructor. -/

namespace Sys2Proof.Laws.CodeLength

open Sys2Proof

set_option Elab.async false

/-- The number of bytes of a code: of a record or a frame; 0 for a row selected by a register. -/
def bytesOf : Code → Nat
  | .record (.cmd r) => r.length
  | .record (.evt r) => r.length
  | .frame f => f.length
  | .irq _ => 0
  | .phaseC _ _ => 0
  | .phaseH _ => 0

/-- A well-formed instruction's code is no longer than the longest record (R98, R100). -/
def Statement (i : Instr) : Prop :=
  ∀ par : Params, i.wellFormed par = true → bytesOf (Sys2Proof.encode i) ≤ longestRecord

theorem send (dst id flags : Byte) (payload : Bytes) :
    Statement (.send dst id flags payload) := by
  intro par h
  simp [Instr.wellFormed, countable] at h
  simp [bytesOf, Sys2Proof.encode, counted, longestRecord]
  omega

theorem sendw (dst flags retries : Byte) (payload : Bytes) :
    Statement (.sendw dst flags retries payload) := by
  intro par h
  simp [Instr.wellFormed, countable] at h
  simp [bytesOf, Sys2Proof.encode, counted, longestRecord]
  omega

theorem modeIdle : Statement (.modeIdle) := by
  intro _ _
  simp [bytesOf, Sys2Proof.encode, longestRecord]

theorem modeRx : Statement (.modeRx) := by
  intro _ _
  simp [bytesOf, Sys2Proof.encode, longestRecord]

theorem modeTx : Statement (.modeTx) := by
  intro _ _
  simp [bytesOf, Sys2Proof.encode, longestRecord]

theorem sleep : Statement (.sleep) := by
  intro _ _
  simp [bytesOf, Sys2Proof.encode, longestRecord]

theorem waitsent : Statement (.waitsent) := by
  intro _ _
  simp [bytesOf, Sys2Proof.encode, longestRecord]

theorem close : Statement (.close) := by
  intro _ _
  simp [bytesOf, Sys2Proof.encode, longestRecord]

theorem setcb (en : Byte) : Statement (.setcb en) := by
  intro _ _
  simp [bytesOf, Sys2Proof.encode, longestRecord]

theorem init (addr cfg power preset : Byte) (cad retry wps : Ticks) : Statement (.init addr cfg power preset cad retry wps) := by
  intro _ _
  simp [bytesOf, Sys2Proof.encode, longestRecord]

theorem encode (dst src id flags : Byte) (payload : Bytes) :
    Statement (.encode dst src id flags payload) := by
  intro par h
  simp [Instr.wellFormed, countable] at h
  simp [bytesOf, Sys2Proof.encode, counted, longestRecord]
  omega

theorem decode (bytes : Bytes) :
    Statement (.decode bytes) := by
  intro par h
  simp [Instr.wellFormed, countable] at h
  simp [bytesOf, Sys2Proof.encode, counted, longestRecord]
  omega

theorem illegal (op : Byte) : Statement (.illegal op) := by
  intro _ _
  simp [bytesOf, Sys2Proof.encode, longestRecord]

theorem frameAck (dst src id flags : Byte) (payload : Bytes) :
    Statement (.frameAck dst src id flags payload) := by
  intro par h
  simp [Instr.wellFormed, receivable, Config.hdrLen, Config.fifoMax] at h
  simp [bytesOf, Sys2Proof.encode, longestRecord]
  have := h.2
  omega

theorem frameDataBcast (src id flags : Byte) (payload : Bytes) :
    Statement (.frameDataBcast src id flags payload) := by
  intro par h
  simp [Instr.wellFormed, receivable, Config.hdrLen, Config.fifoMax] at h
  simp [bytesOf, Sys2Proof.encode, longestRecord]
  have := h.2
  omega

theorem frameDataUcast (dst src id flags : Byte) (payload : Bytes) :
    Statement (.frameDataUcast dst src id flags payload) := by
  intro par h
  simp [Instr.wellFormed, receivable, Config.hdrLen, Config.fifoMax] at h
  simp [bytesOf, Sys2Proof.encode, longestRecord]
  have := h.2
  omega

theorem evTick : Statement (.evTick) := by
  intro _ _
  simp [bytesOf, Sys2Proof.encode, longestRecord]

theorem evTxdone : Statement (.evTxdone) := by
  intro _ _
  simp [bytesOf, Sys2Proof.encode, longestRecord]

theorem evRxdone (crcValid : Bool) (rssi snr : Byte) (bytes : Bytes) :
    Statement (.evRxdone crcValid rssi snr bytes) := by
  intro par h
  simp [Instr.wellFormed, countable] at h
  simp [bytesOf, Sys2Proof.encode, counted, longestRecord]
  omega

theorem evCaddone (detected : Bool) : Statement (.evCaddone detected) := by
  intro _ _
  simp [bytesOf, Sys2Proof.encode, longestRecord]

theorem stepC : Statement (.stepC) := by
  intro _ _
  simp [bytesOf, Sys2Proof.encode, longestRecord]

theorem stepH : Statement (.stepH) := by
  intro _ _
  simp [bytesOf, Sys2Proof.encode, longestRecord]

theorem stepX : Statement (.stepX) := by
  intro _ _
  simp [bytesOf, Sys2Proof.encode, longestRecord]

theorem irqSent : Statement (.irqSent) := by
  intro _ _
  simp [bytesOf, Sys2Proof.encode, longestRecord]

theorem irqRecv : Statement (.irqRecv) := by
  intro _ _
  simp [bytesOf, Sys2Proof.encode, longestRecord]

theorem irqCad (a : Sequencer) : Statement (.irqCad a) := by
  intro _ _
  cases a <;> decide

theorem hIdle : Statement (.hIdle) := by
  intro _ _
  simp [bytesOf, Sys2Proof.encode, longestRecord]

theorem hFlags : Statement (.hFlags) := by
  intro _ _
  simp [bytesOf, Sys2Proof.encode, longestRecord]

theorem hSent : Statement (.hSent) := by
  intro _ _
  simp [bytesOf, Sys2Proof.encode, longestRecord]

theorem hRead : Statement (.hRead) := by
  intro _ _
  simp [bytesOf, Sys2Proof.encode, longestRecord]

theorem hFilter : Statement (.hFilter) := by
  intro _ _
  simp [bytesOf, Sys2Proof.encode, longestRecord]

theorem hDeliver : Statement (.hDeliver) := by
  intro _ _
  simp [bytesOf, Sys2Proof.encode, longestRecord]

theorem gStart (a : Sequencer) : Statement (.gStart a) := by
  intro _ _
  cases a <;> decide

theorem gCad (a : Sequencer) : Statement (.gCad a) := by
  intro _ _
  cases a <;> decide

theorem gPoll (a : Sequencer) : Statement (.gPoll a) := by
  intro _ _
  cases a <;> decide

theorem gBusy (a : Sequencer) : Statement (.gBusy a) := by
  intro _ _
  cases a <;> decide

theorem gBackoff (a : Sequencer) : Statement (.gBackoff a) := by
  intro _ _
  cases a <;> decide

theorem gFifo (a : Sequencer) : Statement (.gFifo a) := by
  intro _ _
  cases a <;> decide

theorem gTrig (a : Sequencer) : Statement (.gTrig a) := by
  intro _ _
  cases a <;> decide

theorem cAfterSend : Statement (.cAfterSend) := by
  intro _ _
  simp [bytesOf, Sys2Proof.encode, longestRecord]

theorem cAfterSendw : Statement (.cAfterSendw) := by
  intro _ _
  simp [bytesOf, Sys2Proof.encode, longestRecord]

theorem wWait : Statement (.wWait) := by
  intro _ _
  simp [bytesOf, Sys2Proof.encode, longestRecord]

theorem sWait : Statement (.sWait) := by
  intro _ _
  simp [bytesOf, Sys2Proof.encode, longestRecord]

end Sys2Proof.Laws.CodeLength
end

