-- ==== Sys2Proof/Tests/Slice0.lean ====
section
/-! SUPPORT. Tests. Every expected value is the spec's: the tables of 30_encoding.md and the vectors V-* and programs P* of
95_test_vectors.md named at each test. The `witness_` theorems show a state and operands that meet the hypotheses of
the statement they name, clause by clause, at boundary values. -/

namespace Sys2Proof.Tests

open Sys2Proof Sys2Proof.Machine

/-! ## Helpers -/

/-- A session at address 2, as after `INIT 2, 1, 0, 14, 0, 1000, 200, 500` (the start of the vectors). -/
def openState : State :=
  { State.reset with
    session :=
      { Session.reset with
        isOpen := true, thisAddr := 2, ackEn := true, txPower := 14, cadTimeout := 1000, retryTimeout := 200
        wpsTimeout := 500, mode := .idle, txDone := true } }

/-- The caller sequencer in a phase. -/
def callerIn (p : CPhase) (op : COp) : State := { openState with c := { openState.c with seq := p, op := op } }

/-- The handler in a phase. -/
def handlerIn (p : HPhase) : State := { openState with h := { openState.h with seq := p } }

/-- The handler at its filter with a frame of the session's address 10, CRC good (V-H rows). -/
def filtering (f : Bytes) : State :=
  { handlerIn .filter with
    session := { openState.session with thisAddr := 10 }
    h := { openState.h with seq := .filter, buf := f, len := countByte f.length, crc := true } }

/-- A closing session with a `SENDW` waiting (P6, row 13). -/
def closingState : State :=
  { callerIn .wWait .sendw with session := { openState.session with isOpen := false, closing := true } }

/-- A transmission in flight. -/
def transmitting : State :=
  { openState with
    session := { openState.session with mode := .transmitting, txDone := false }
    radio := { openState.radio with txInflight := true, txBytes := [1, 2, 3, 4] } }

/-- A detection in progress. -/
def detecting : State :=
  { openState with
    session := { openState.session with mode := .channelListen }
    radio := { openState.radio with cadInflight := true } }

/-- A next state seen through a reading. -/
def seen {α : Type} (a : Answer) (view : State → α) : Option α :=
  match a with
  | .next t => some (view t)
  | _ => none

/-- The toy cipher of 95_test_vectors.md: `B = 4`, every byte XOR `0xA5`. -/
def toyCipher : Cipher where
  blockPred := 3
  encByte x i := x.getD i 0 ^^^ 0xA5
  decByte x i := x.getD i 0 ^^^ 0xA5

theorem toyCipher_inverts : toyCipher.Inverts := by
  intro x _
  apply List.ext_getElem
  · simp [Cipher.enc, Cipher.dec]
  · intro i h1 h2
    simp [Cipher.enc, Cipher.dec, toyCipher, List.getD, h2]

/-! ## Decoding: one code of every constructor, written out from the tables -/

theorem test_decode_send :
    decode {} (.record (.cmd [0x01, 0x0A, 0x07, 0x00, 0x02, 0x48, 0x69])) = some (.send 10 7 0 [0x48, 0x69]) := by decide
theorem test_decode_sendw :
    decode {} (.record (.cmd [0x02, 0x0A, 0x00, 0x02, 0x02, 0x48, 0x69])) = some (.sendw 10 0 2 [0x48, 0x69]) := by decide
theorem test_decode_modeIdle : decode {} (.record (.cmd [0x03])) = some .modeIdle := by decide
theorem test_decode_modeRx : decode {} (.record (.cmd [0x04])) = some .modeRx := by decide
theorem test_decode_modeTx : decode {} (.record (.cmd [0x05])) = some .modeTx := by decide
theorem test_decode_sleep : decode {} (.record (.cmd [0x06])) = some .sleep := by decide
theorem test_decode_waitsent : decode {} (.record (.cmd [0x07])) = some .waitsent := by decide
theorem test_decode_close : decode {} (.record (.cmd [0x08])) = some .close := by decide
theorem test_decode_setcb : decode {} (.record (.cmd [0x09, 0x01])) = some (.setcb 1) := by decide
theorem test_decode_init :
    decode {} (.record (.cmd [0x0A, 0x02, 0x01, 0x0E, 0x00, 0xE8, 0x03, 0xC8, 0x00, 0xF4, 0x01])) =
      some (.init 2 1 14 0 1000 200 500) := by decide
theorem test_decode_encode :
    decode {} (.record (.cmd [0x10, 0x0A, 0x02, 0x01, 0x00, 0x02, 0x48, 0x69])) =
      some (.encode 10 2 1 0 [0x48, 0x69]) := by decide
theorem test_decode_decode : decode {} (.record (.cmd [0x11, 0x03, 0x01, 0x02, 0x03])) = some (.decode [1, 2, 3]) := by
  decide
theorem test_decode_illegal : decode {} (.record (.cmd [0x12])) = some (.illegal 0x12) := by decide
theorem test_decode_frameAck : decode {} (.frame [0x02, 0x0A, 0x01, 0x80]) = some (.frameAck 2 10 1 0x80 []) := by decide
theorem test_decode_frameDataBcast :
    decode {} (.frame [0xFF, 0x02, 0x05, 0x00, 0x48]) = some (.frameDataBcast 2 5 0 [0x48]) := by decide
theorem test_decode_frameDataUcast :
    decode {} (.frame [0x0A, 0x02, 0x05, 0x01, 0x48]) = some (.frameDataUcast 10 2 5 1 [0x48]) := by decide
theorem test_decode_evTick : decode {} (.record (.evt [0x80])) = some .evTick := by decide
theorem test_decode_evTxdone : decode {} (.record (.evt [0x81])) = some .evTxdone := by decide
theorem test_decode_evRxdone :
    decode {} (.record (.evt [0x82, 0x00, 0x40, 0x10, 0x02, 0x0A, 0x02])) = some (.evRxdone false 0x40 0x10 [10, 2]) := by
  decide
theorem test_decode_evCaddone : decode {} (.record (.evt [0x83, 0x01])) = some (.evCaddone true) := by decide
theorem test_decode_stepC : decode {} (.record (.evt [0x90])) = some .stepC := by decide
theorem test_decode_stepH : decode {} (.record (.evt [0x91])) = some .stepH := by decide
theorem test_decode_stepX : decode {} (.record (.evt [0x92])) = some .stepX := by decide
theorem test_decode_irqSent : decode {} (.irq .sent) = some .irqSent := by decide
theorem test_decode_irqRecv : decode {} (.irq .recv) = some .irqRecv := by decide
theorem test_decode_irqCad : decode {} (.irq (.cad .h)) = some (.irqCad .h) := by decide
theorem test_decode_hIdle : decode {} (.phaseH .idle) = some .hIdle := by decide
theorem test_decode_hFlags : decode {} (.phaseH .flags) = some .hFlags := by decide
theorem test_decode_hSent : decode {} (.phaseH .sent) = some .hSent := by decide
theorem test_decode_hRead : decode {} (.phaseH .read) = some .hRead := by decide
theorem test_decode_hFilter : decode {} (.phaseH .filter) = some .hFilter := by decide
theorem test_decode_hDeliver : decode {} (.phaseH .deliver) = some .hDeliver := by decide
theorem test_decode_gStart : decode {} (.phaseC (.gate .start) .send) = some (.gStart .c) := by decide
theorem test_decode_gCad : decode {} (.phaseH (.gate .cad)) = some (.gCad .h) := by decide
theorem test_decode_gPoll : decode {} (.phaseC (.gate .poll) .sendw) = some (.gPoll .c) := by decide
theorem test_decode_gBusy : decode {} (.phaseH (.gate .busy)) = some (.gBusy .h) := by decide
theorem test_decode_gBackoff : decode {} (.phaseC (.gate .backoff) .send) = some (.gBackoff .c) := by decide
theorem test_decode_gFifo : decode {} (.phaseH (.gate .fifo)) = some (.gFifo .h) := by decide
theorem test_decode_gTrig : decode {} (.phaseC (.gate .trig) .send) = some (.gTrig .c) := by decide
theorem test_decode_cAfterSend : decode {} (.phaseC .after .send) = some .cAfterSend := by decide
theorem test_decode_cAfterSendw : decode {} (.phaseC .after .sendw) = some .cAfterSendw := by decide
theorem test_decode_wWait : decode {} (.phaseC .wWait .sendw) = some .wWait := by decide
theorem test_decode_sWait : decode {} (.phaseC .sWait .waitsent) = some .sWait := by decide

/-- A word of the table is laid out first byte lowest; `WAITSENT` and the 32-bit header of `FRAME.DATA.BCAST`. -/
theorem test_table_words :
    decodeTableWord 8 0x07 = some .waitsent ∧ decodeTableWord 16 0x0109 = some (.setcb 1) ∧
    decodeTableWord 8 0x80 = some .evTick ∧ decodeTableWord 32 0xFF020500 = some (.frameDataBcast 2 5 0 []) := by decide

/-- A table word placed at reset is the next instruction: `SLEEP` on the closed block answers `Closed` (V-S1). -/
theorem test_fetch_word :
    seen (step (State.reset.withFetchWord 8 0x06)) (fun t => (t.resp, t.script)) = some ([[0x06, 0x08]], []) := by decide

/-- With another `ACK_MASK` another bit marks an acknowledgment (R4, R91). -/
theorem test_decode_other_mask :
    decode { ackBit := 0 } (.frame [0x02, 0x0A, 0x01, 0x01]) = some (.frameAck 2 10 1 1 []) ∧
    decode { ackBit := 0 } (.frame [0x02, 0x0A, 0x01, 0x80]) = some (.frameDataUcast 2 10 1 0x80 []) := by decide

/-- A short record, left-over bytes, an unknown event code and an event flag of 2 are no records (R98, R100). -/
theorem test_decode_rejects :
    decode {} (.record (.cmd [])) = none ∧ decode {} (.record (.cmd [0x01, 0x0A, 0x07, 0x00, 0x02, 0x48])) = none ∧
    decode {} (.record (.cmd [0x03, 0x00])) = none ∧ decode {} (.record (.evt [0x84])) = none ∧
    decode {} (.record (.evt [0x83, 0x02])) = none ∧ decode {} (.frame [0x01, 0x02, 0x03]) = none := by decide

/-! ## WellFormed: an ill-formed term for each check -/

/-- 256 bytes have no one-byte count. -/
theorem not_countable {n : Nat} (h : 255 < n) : countable (List.replicate n 0) = false := by simp [countable, h]

/-- A payload of more than 251 bytes is received in no frame. -/
theorem not_receivable {n : Nat} (h : 251 < n) : receivable (List.replicate n 0) = false := by
  simp [receivable, Config.hdrLen, Config.fifoMax]
  omega

theorem test_wf_send : (Instr.send 10 0 0 (List.replicate 256 0)).wellFormed {} = false := not_countable (by decide)
theorem test_wf_sendw : (Instr.sendw 10 0 0 (List.replicate 256 0)).wellFormed {} = false := not_countable (by decide)
theorem test_wf_encode : (Instr.encode 1 2 3 4 (List.replicate 256 0)).wellFormed {} = false := not_countable (by decide)
theorem test_wf_decode : (Instr.decode (List.replicate 256 0)).wellFormed {} = false := not_countable (by decide)
theorem test_wf_illegal : (Instr.illegal 0x0A).wellFormed {} = false := by decide
theorem test_wf_frameAck : (Instr.frameAck 1 2 3 0x7F []).wellFormed {} = false := by decide
theorem test_wf_frameAck_size : (Instr.frameAck 1 2 3 0x80 (List.replicate 252 0)).wellFormed {} = false := by
  simp only [Instr.wellFormed, not_receivable (show 251 < 252 by decide), Bool.and_false]
theorem test_wf_frameDataBcast : (Instr.frameDataBcast 2 3 0x80 []).wellFormed {} = false := by decide
theorem test_wf_frameDataBcast_size : (Instr.frameDataBcast 2 3 0 (List.replicate 252 0)).wellFormed {} = false := by
  simp only [Instr.wellFormed, not_receivable (show 251 < 252 by decide), Bool.and_false]
theorem test_wf_frameDataUcast : (Instr.frameDataUcast 1 2 3 0x80 []).wellFormed {} = false := by decide
theorem test_wf_frameDataUcast_to : (Instr.frameDataUcast 255 2 3 0 []).wellFormed {} = false := by decide
theorem test_wf_frameDataUcast_size : (Instr.frameDataUcast 1 2 3 0 (List.replicate 252 0)).wellFormed {} = false := by
  simp only [Instr.wellFormed, not_receivable (show 251 < 252 by decide), Bool.and_false]
theorem test_wf_evRxdone : (Instr.evRxdone true 0 0 (List.replicate 256 0)).wellFormed {} = false := not_countable (by decide)

/-! ## Vectors: one step each -/

/-- V-C5. -/
theorem test_encode :
    seen (exec (.encode 10 2 1 0 [0x48, 0x69]) openState) State.resp =
      some [[0x10, 0x00, 0x06, 0x0A, 0x02, 0x01, 0x00, 0x48, 0x69]] := by decide
/-- With `FIFO_CAP = 5` two bytes of payload are too many (R4, R123). -/
theorem test_encode_other_cap :
    seen (exec (.encode 10 2 1 0 [0x48, 0x69]) { openState with params := { fifoExtra := 1 } }) State.resp =
      some [[0x10, 0x01]] := by decide
/-- V-C8. -/
theorem test_decode_any_header :
    seen (exec (.decode [0xFF, 0xFF, 0xFF, 0xFF, 0x00, 0xFF]) openState) State.resp =
      some [[0x11, 0x00, 0xFF, 0xFF, 0xFF, 0xFF, 0x02, 0x00, 0xFF]] := by decide
/-- V-C6. -/
theorem test_decode_short : seen (exec (.decode [1, 2, 3]) openState) State.resp = some [[0x11, 0x02]] := by decide
/-- V-C9: padding and encryption with the toy cipher; the header is in the clear. -/
theorem test_cipher_encode :
    encodeWith 255 (some toyCipher) [0x11, 0x22, 0x33] ⟨10, 2, 1, 0⟩ [0x48, 0x65, 0x6C, 0x6C, 0x6F] =
      some [0x0A, 0x02, 0x01, 0x00, 0xED, 0xC0, 0xC9, 0xC9, 0xCA, 0xB4, 0x87, 0x96] := by decide
/-- V-C12. -/
theorem test_cipher_length :
    decodeWith (some toyCipher) [0x0A, 0x02, 0x01, 0x00, 0x01, 0x02, 0x03, 0x04, 0x05] = .cipherLength := by decide
/-- V-C13, `B = 16`. -/
theorem test_padding :
    [0, 1, 15, 16, 17, 31, 32, 240, 241].map (padLen (some { toyCipher with blockPred := 15 })) =
      [0, 15, 1, 0, 15, 1, 0, 0, 15] := by decide
/-- V-M1. -/
theorem test_modeRx :
    seen (exec .modeRx openState) (fun t => (t.session.mode, t.resp)) = some (.receiving, [[0x04, 0x00]]) := by decide
/-- V-M2. -/
theorem test_sleep :
    seen (exec .sleep openState) (fun t => (t.session.mode, t.session.isOpen, t.resp)) =
      some (.sleep, true, [[0x06, 0x00]]) := by decide
/-- V-M5: leaving `Transmitting` cancels the transmission and leaves the signal at 0. -/
theorem test_modeIdle_cancels :
    seen (exec .modeIdle transmitting)
      (fun t => (t.session.mode, t.radio.txInflight, t.session.txDone, t.air)) = some (.idle, false, false, []) := by decide
/-- V-M4: nothing staged. -/
theorem test_modeTx :
    seen (exec .modeTx openState) (fun t => (t.session.mode, t.radio.txInflight, t.session.txDone, t.resp)) =
      some (.transmitting, true, false, [[0x05, 0x00]]) := by decide
/-- P6, row 11. -/
theorem test_close :
    seen (exec .close openState) (fun t => (t.session.isOpen, t.session.closing, t.resp)) = some (false, true, []) := by
  decide
/-- P6, row 14. -/
theorem test_stepX :
    seen (exec .stepX closingState)
      (fun t => (t.session.mode, t.session.closing, t.resp)) = some (.sleep, false, [[0x08, 0x00]]) := by decide
/-- P6, row 14 ends the run as kind (a); the block that no `INIT` opened has not ended so (R283; log entry 21). -/
theorem test_endedClosed :
    seen (exec .stepX closingState) endedClosed = some true ∧ endedClosed State.reset = false ∧
    endedOpen State.reset = false ∧ endedPrefix State.reset = true := by decide
/-- P2, row 2. -/
theorem test_setcb : seen (exec (.setcb 1) openState) (fun t => (t.session.cbEn, t.resp)) = some (true, [[0x09, 0x00]]) := by
  decide
/-- P3, row 1: the configuration. -/
theorem test_init :
    seen (exec (.init 2 1 14 0 1000 200 500) State.reset)
      (fun t => (t.session.thisAddr, t.session.ackEn, t.session.cadTimeout, t.session.retryTimeout)) =
      some (2, true, 1000, 200) := by decide
/-- P3, row 1: the mode, the signal, the counter, the response. -/
theorem test_init_state :
    seen (exec (.init 2 1 14 0 1000 200 500) State.reset)
      (fun t => (t.session.mode, t.session.txDone, t.session.lastId, t.resp)) =
      some (.idle, true, 0, [[0x0A, 0x00]]) := by decide
/-- V-S2. -/
theorem test_illegal : seen (exec (.illegal 0xFF) State.reset) State.resp = some [[0xFF, 0x09]] := by decide
/-- P5, row 2. -/
theorem test_send :
    seen (exec (.send 10 7 0 [0x48, 0x69]) openState) (fun t => (t.c.seq, t.c.gate.frame, t.session.lastId)) =
      some (.gate .start, [0x0A, 0x02, 0x07, 0x00, 0x48, 0x69], 0) := by decide
/-- V-R1: the counter wraps. -/
theorem test_sendw_wraps :
    seen (exec (.sendw 10 0 0 [0x41]) { openState with session := { openState.session with lastId := 255 } })
      (fun t => (t.session.lastId, t.c.gate.frame, t.session.pendId)) = some (0, [0x0A, 0x02, 0x00, 0x00, 0x41], 0) := by
  decide
/-- P4, row 2: a broadcast makes no record. -/
theorem test_sendw_broadcast :
    seen (exec (.sendw 255 0 3 [0x48, 0x69]) openState) (fun t => (t.session.lastId, t.session.pendValid)) =
      some (1, false) := by decide
/-- P5, row 26 (`NOW = 33`). -/
theorem test_waitsent : seen (exec .waitsent { openState with now := 33 }) (fun t => (t.c.seq, t.c.dl)) = some (.sWait, 533) := by
  decide
/-- P5, row 25. -/
theorem test_cAfterSend : seen (exec .cAfterSend (callerIn .after .send)) State.resp = some [[0x01, 0x00]] := by decide
/-- P3, row 23 (`NOW = 200`). -/
theorem test_cAfterSendw :
    seen (exec .cAfterSendw { callerIn .after .sendw with now := 200 }) (fun t => (t.session.pendDeadline, t.c.seq)) =
      some (400, .wWait) := by decide
/-- P3, row 16: the first re-send of two. -/
theorem test_wWait_resends :
    seen (exec .wWait
      { callerIn .wWait .sendw with
        session := { openState.session with pendValid := true, pendLeft := 2, pendDeadline := 200 }, now := 200 })
      (fun t => (t.session.pendLeft, t.c.seq, t.resp)) = some (1, .gate .start, []) := by decide
/-- V-R7: no re-send left. -/
theorem test_wWait_gives_up :
    seen (exec .wWait
      { callerIn .wWait .sendw with session := { openState.session with pendValid := true, pendDeadline := 200 }, now := 200 })
      (fun t => (t.session.pendValid, t.resp)) = some (false, [[0x02, 0x05]]) := by decide
/-- V-S6: the expiry alone is `TransmitTimeout`. -/
theorem test_sWait_expires :
    seen (exec .sWait
      { callerIn .sWait .waitsent with
        session := { openState.session with txDone := false }
        c := { (callerIn .sWait .waitsent).c with dl := 500 }
        now := 500 }) State.resp = some [[0x07, 0x06]] := by decide
/-- V-R4: only `from`, `id` and the ACK bit count. -/
theorem test_frameAck_matches :
    seen (exec (.frameAck 255 10 1 0x8F [0x99])
      { handlerIn .filter with session := { openState.session with pendValid := true, pendTo := 10, pendId := 1 } })
      (fun t => (t.session.pendValid, t.session.ackOk, t.h.seq)) = some (false, true, .idle) := by decide
/-- V-R2: an ACK from another address is ignored. -/
theorem test_frameAck_ignored :
    seen (exec (.frameAck 2 11 1 0x80 [])
      { handlerIn .filter with session := { openState.session with pendValid := true, pendTo := 10, pendId := 1 } })
      (fun t => (t.session.pendValid, t.session.ackOk, t.h.seq)) = some (true, false, .idle) := by decide
/-- V-H4, at the filter. -/
theorem test_frameDataBcast :
    seen (exec (.frameDataBcast 2 5 0 [0x48, 0x69]) (handlerIn .filter)) (fun t => (t.h.seq, t.h.msg)) =
      some (.deliver, [0x48, 0x69]) := by decide
/-- V-H6: the ACK's flags are exactly `0x80`. -/
theorem test_frameDataUcast :
    seen (exec (.frameDataUcast 10 2 5 1 [0x48, 0x69]) (filtering [])) (fun t => (t.h.seq, t.h.gate.frame)) =
      some (.gate .start, [0x02, 0x0A, 0x05, 0x80]) := by decide
/-- V-H3. -/
theorem test_hFilter_drops :
    seen (exec .hFilter (filtering [0x0B, 0x02, 0x05, 0x00, 0x48, 0x69])) (fun t => (t.h.seq, t.deliv)) =
      some (.idle, []) := by decide
/-- V-H6 through the filter. -/
theorem test_hFilter_acks :
    seen (exec .hFilter (filtering [0x0A, 0x02, 0x05, 0x01, 0x48, 0x69])) (fun t => (t.h.seq, t.h.gate.frame)) =
      some (.gate .start, [0x02, 0x0A, 0x05, 0x80]) := by decide
/-- P2, row 5. -/
theorem test_hIdle :
    seen (exec .hIdle { openState with radio := { openState.radio with irqPend := true } })
      (fun t => (t.radio.irqPend, t.h.seq)) = some (false, .flags) := by decide
/-- V-H11: a CAD report alone. -/
theorem test_hFlags_cad :
    seen (exec .hFlags
      { handlerIn .flags with
        radio := { openState.radio with irqf := ⟨false, false, true, false⟩ } })
      (fun t => (t.h.seq, t.radio.irqf.cadDone)) = some (.idle, true) := by decide
/-- P2, row 20. -/
theorem test_hSent :
    seen (exec .hSent
      { handlerIn .sent with
        session := { openState.session with mode := .transmitting, txDone := false }
        radio := { openState.radio with irqf := ⟨true, false, false, false⟩ } })
      (fun t => (t.session.mode, t.session.txDone, t.radio.irqf.txDone, t.h.seq)) = some (.idle, true, false, .idle) := by
  decide
/-- P3, row 33. -/
theorem test_hRead :
    seen (exec .hRead
      { handlerIn .read with
        radio :=
          { openState.radio with
            irqf := ⟨false, true, false, false⟩, fifo := [0x02, 0x0A, 0x01, 0x80], fifoSrc := .rx, rxNb := 4
            crcValid := true, rssiRaw := 0x48, snrRaw := 0x24 } })
      (fun t => (t.h.len, t.h.buf, t.h.crc, t.h.rssi, t.h.snr, t.radio.crcValid)) =
      some (4, [0x02, 0x0A, 0x01, 0x80], true, 72, 36, false) := by decide
/-- V-H4. -/
theorem test_hDeliver :
    seen (exec .hDeliver
      { handlerIn .deliver with
        session := { openState.session with cbEn := true }
        h := { (handlerIn .deliver).h with hdr := ⟨255, 2, 5, 0⟩, msg := [0x48, 0x69], rssi := 0x40, snr := 0x10 } })
      State.deliv = some [[0x02, 0xFF, 0x05, 0x00, 0x02, 0x48, 0x69, 0x40, 0x10]] := by decide
/-- V-G1. -/
theorem test_gStart :
    seen (exec (.gStart .c) { callerIn (.gate .start) .send with now := 100 }) (fun t => (t.c.gate.t0, t.c.seq)) =
      some (100, .gate .cad) := by decide
/-- V-G1. -/
theorem test_gCad :
    seen (exec (.gCad .h) (handlerIn (.gate .cad))) (fun t => (t.session.mode, t.radio.cadInflight, t.h.seq)) =
      some (.channelListen, true, .gate .poll) := by decide
/-- P5, row 7. -/
theorem test_gPoll :
    seen (exec (.gPoll .c)
      { callerIn (.gate .poll) .send with radio := { openState.radio with irqf := ⟨false, false, true, true⟩ } })
      (fun t => (t.c.seq, t.radio.irqf.cadDone, t.radio.irqf.cadDetected)) = some (.gate .busy, false, false) := by decide
/-- V-G3: `cad_timeout = 0`. -/
theorem test_gBusy :
    seen (exec (.gBusy .c)
      { callerIn (.gate .busy) .send with session := { openState.session with cadTimeout := 0 } })
      (fun t => t.c.seq) = some (.gate .fifo) := by decide
/-- P5, row 10. -/
theorem test_gBackoff :
    seen (exec (.gBackoff .c)
      { callerIn (.gate .backoff) .send with
        c := { (callerIn (.gate .backoff) .send).c with gate := { frame := [], t0 := 0, wdl := 5, bdl := 9 } }
        now := 9 })
      (fun t => t.c.seq) = some (.gate .cad) := by decide
/-- P2, row 13. -/
theorem test_gFifo :
    seen (exec (.gFifo .h)
      { handlerIn (.gate .fifo) with
        h := { (handlerIn (.gate .fifo)).h with gate := { frame := [0x02, 0x0A, 0x01, 0x80], t0 := 7, wdl := 12, bdl := 0 } } })
      (fun t => (t.radio.fifo, t.radio.fifoSrc, t.h.seq)) = some ([0x02, 0x0A, 0x01, 0x80], .tx, .gate .trig) := by decide
/-- P2, row 14. -/
theorem test_gTrig :
    seen (exec (.gTrig .h)
      { handlerIn (.gate .trig) with
        radio := { openState.radio with fifo := [0x02, 0x0A, 0x01, 0x80], fifoSrc := .tx, cadInflight := true } })
      (fun t => (t.session.mode, t.session.txDone, t.radio.txBytes, t.radio.cadInflight, t.h.seq)) =
      some (.transmitting, false, [0x02, 0x0A, 0x01, 0x80], false, .deliver) := by decide
/-- V-M6, the completion: a stale frame on the air. -/
theorem test_evTxdone :
    seen (exec .evTxdone transmitting)
      (fun t => (t.air, t.radio.irqf.txDone, t.radio.irqPend, t.session.mode)) =
      some ([[1, 2, 3, 4]], true, true, .transmitting) := by decide
/-- P3, row 30. -/
theorem test_evRxdone :
    seen (exec (.evRxdone true 0x48 0x24 [0x02, 0x0A, 0x01, 0x80]) openState)
      (fun t => (t.radio.fifo, t.radio.rxNb, t.radio.irqf.rxDone, t.radio.irqPend)) =
      some ([0x02, 0x0A, 0x01, 0x80], 4, true, true) := by decide
/-- V-M2: no `RADIO` step in `Sleep`. -/
theorem test_evRxdone_sleep :
    exec (.evRxdone true 0 0 [1]) { openState with session := { openState.session with mode := .sleep } } =
      .refused .notEnabled := rfl
/-- P5, row 6. -/
theorem test_evCaddone :
    seen (exec (.evCaddone true) detecting)
      (fun t => (t.radio.irqf.cadDone, t.radio.irqf.cadDetected, t.radio.cadInflight)) = some (true, true, false) := by decide
/-- P6, row 10: one tick. -/
theorem test_evTick : seen (exec .evTick openState) State.now = some 1 := by decide

/-! ## Witnesses: a state and operands that meet the hypotheses of a statement -/

/-- The three clauses: a record, no record, an empty script. -/
theorem witness_StepRunsTheNextRecord :
    decode {} (.record (.cmd [0x03])) = some .modeIdle ∧ decode {} (.record (.evt [])) = none ∧ State.reset.script = [] := by
  decide
/-- At the longest payload. -/
theorem witness_DecodeInvertsEncode : (Instr.send 10 0 0 (List.replicate 255 0)).wellFormed {} = true := by
  simp only [Instr.wellFormed, countable, List.length_replicate, Nat.le_refl, decide_true]
/-- A record that is not `ILLEGAL`, and one that is. -/
theorem witness_RecordsHaveOneEncoding :
    decode {} (.record (.cmd [0x09, 0x02])) = some (.setcb 2) ∧ decode {} (.record (.cmd [0x00, 0x01])) = some (.illegal 0) := by
  decide
/-- Each class at a boundary of its test, with the default mask and with bit 0, and the longest string that is no frame. -/
theorem witness_FrameClassesInOrder :
    (0x80 : Byte) &&& Params.ackMask {} ≠ 0 ∧ (0x7F : Byte) &&& Params.ackMask {} = 0 ∧
    (0x01 : Byte) &&& Params.ackMask { ackBit := 0 } ≠ 0 ∧ (0xFE : Byte) &&& Params.ackMask { ackBit := 0 } = 0 ∧
    (254 : Byte) ≠ 255 ∧ ([1, 2, 3] : Bytes).length < 4 := by decide
/-- Without a cipher at the bound of 251 bytes (V-C3) and at the smallest `FIFO_CAP`, with the toy cipher at five bytes
(V-C9). -/
theorem witness_CodecRoundTrip :
    4 + 251 + padLen none 251 ≤ Params.fifoCap {} ∧ ([] : Bytes).length = padLen none 251 ∧
    4 + 0 + padLen none 0 ≤ Params.fifoCap { fifoExtra := 0 } ∧
    4 + 5 + padLen (some toyCipher) 5 ≤ Params.fifoCap {} ∧ ([0x11, 0x22, 0x33] : Bytes).length = padLen (some toyCipher) 5 ∧
    toyCipher.Inverts := ⟨by decide, by decide, by decide, by decide, by decide, toyCipher_inverts⟩
/-- One byte fewer than the padding. -/
theorem witness_PaddingIsMinimal : 2 < padLen (some toyCipher) 5 := by decide
/-- With a cipher and without. -/
theorem witness_HeaderIsNeverTransformed :
    encodeWith 255 (some toyCipher) [1, 2, 3] ⟨1, 2, 3, 4⟩ [9] = some [1, 2, 3, 4, 0xAC, 0xA4, 0xA7, 0xA6] ∧
    encodeWith 255 none [] ⟨1, 2, 3, 4⟩ [9] = some [1, 2, 3, 4, 9] := by decide
theorem witness_DecodeOnEveryInput : ([1, 2, 3] : Bytes).length < 4 := by decide
/-- The open session of `EncodeCommandAnswers`, `DecodeCommandAnswers`, `ModeCommandsReachTheirTarget`,
`ModeTxTriggersTheFifo`, `CloseDisarms`; payloads on both sides of the bound; the closed block of the clauses on `Closed`. -/
theorem witness_open_session :
    openState.session.isOpen = true ∧ 4 + 251 + padLen (sessionCipher openState) 251 ≤ openState.params.fifoCap ∧
    ¬ 4 + 252 + padLen (sessionCipher openState) 252 ≤ openState.params.fifoCap ∧ State.reset.session.isOpen = false := by decide
theorem witness_ModeTxTriggersTheFifo : openState.session.isOpen = true ∧ openState.radio.fifoSrc ≠ .tx := by decide
/-- The largest address and the largest configuration without a cipher. -/
theorem witness_InitMakesASession :
    (254 : Byte) ≠ 255 ∧ (1 : Byte).toNat < 4 ∧ ¬ (1 : Byte).getLsbD 1 = true ∧
    State.reset.session.isOpen = false ∧ State.reset.session.closing = false ∧ State.reset.c.seq = .idle ∧
    State.reset.h.seq = .idle := by decide
/-- Both clauses: an illegal configuration, and a legal one on an open session and on a waiting sequencer. -/
theorem witness_InitRefusals :
    4 ≤ (4 : Byte).toNat ∧ ((2 : Byte) ≠ 255 ∧ (1 : Byte).toNat < 4 ∧ ¬ (1 : Byte).getLsbD 1 = true) ∧
    openState.session.isOpen = true ∧ (callerIn .sWait .waitsent).c.seq ≠ .idle := by decide
theorem witness_SetcbWritesTheEnable :
    openState.session.isOpen = true ∧ 1 < (2 : Byte).toNat ∧ State.reset.session.isOpen = false ∧ (1 : Byte).toNat ≤ 1 := by
  decide
/-- Ready in a wait phase; not ready in the gate. -/
theorem witness_CloseReleases :
    closingState.session.closing = true ∧ closingState.h.seq = .idle ∧ closingState.c.seq = .wWait ∧
    openState.session.closing = false ∧ (callerIn (.gate .trig) .send).c.seq ≠ .idle := by decide
/-- Accepted; closed; busy; signal set; expired at once (deadline 0); not yet expired (deadline 1). -/
theorem witness_WaitsentWaitsForTheSignal :
    (openState.session.isOpen = true ∧ openState.c.seq = .idle) ∧ State.reset.session.isOpen = false ∧
    (callerIn .wWait .sendw).session.isOpen = true ∧ (callerIn .wWait .sendw).c.seq ≠ .idle ∧
    (callerIn .sWait .waitsent).c.seq = .sWait ∧ (callerIn .sWait .waitsent).session.txDone = true ∧
    Session.reset.txDone = false ∧ (callerIn .sWait .waitsent).c.dl ≤ (callerIn .sWait .waitsent).now ∧
    (callerIn .sWait .waitsent).now < { (callerIn .sWait .waitsent).c with dl := 1 }.dl := by decide
/-- The opcodes next to the table's (V-S2). -/
theorem witness_IllegalOpcodesAreAnswered :
    ∀ op ∈ ([0x00, 0x0B, 0x0F, 0x12, 0xFF] : List Byte),
      op ∉ ([0x01, 0x02, 0x03, 0x04, 0x05, 0x06, 0x07, 0x08, 0x09, 0x0A, 0x10, 0x11] : List Byte) := by decide
/-- A `SETCB` with the largest legal operand, on the closed block. -/
theorem witness_ClosedSessionRefusesCommands :
    encode (.setcb 1) = .record (.cmd [0x09, 1]) ∧ State.reset.session.isOpen = false ∧ (1 : Byte).toNat ≤ 1 := by decide
theorem witness_BusyRefusesSequencedCommands :
    (callerIn .wWait .sendw).session.isOpen = true ∧ (callerIn .wWait .sendw).c.seq ≠ .idle := by decide
/-- `SendStartsTheGate` and `SendwStartsTheGate`. -/
theorem witness_SendStartsTheGate : openState.session.isOpen = true ∧ openState.c.seq = .idle := by decide
/-- A `SEND`; a `SENDW` to 255; a `SENDW` to 254. -/
theorem witness_AfterTheTrigger :
    (callerIn .after .send).c.seq = .after ∧ (callerIn .after .send).c.op = .send ∧
    (callerIn .after .sendw).c.op = .sendw ∧ ([255, 2, 1, 0] : Bytes).head? = some 255 ∧
    ([254, 2, 1, 0] : Bytes).head? ≠ some 255 := by decide
/-- A wake-up, an expiry with one re-send left, an expiry with none, a wait. -/
theorem witness_WWaitDecides :
    (callerIn .wWait .sendw).c.seq = .wWait ∧ { openState.session with ackOk := true }.ackOk = true ∧
    (callerIn .wWait .sendw).session.ackOk = false ∧ (callerIn .wWait .sendw).session.isOpen = true ∧
    (callerIn .wWait .sendw).session.pendDeadline ≤ (callerIn .wWait .sendw).now ∧
    (callerIn .wWait .sendw).session.pendLeft = 0 ∧ { openState.session with pendLeft := 1 }.pendLeft ≠ 0 ∧
    (callerIn .wWait .sendw).now < { openState.session with pendDeadline := 1 }.pendDeadline := by decide
/-- `AckFramesAreMatchedAndConsumed`, `BroadcastFramesAreDelivered`, `UnicastFramesAreAcknowledged`. -/
theorem witness_handler_filtering : (handlerIn .filter).h.seq = .filter ∧ (handlerIn .filter).session.ackEn = true := by
  decide
/-- An edge on an open session; inside an invocation; no edge; a closed session. -/
theorem witness_InterruptEntry :
    openState.h.seq = .idle ∧ { openState.radio with irqPend := true }.irqPend = true ∧ openState.session.isOpen = true ∧
    (handlerIn .deliver).h.seq ≠ .idle ∧ openState.radio.irqPend = false ∧ State.reset.session.isOpen = false := by decide
theorem witness_FlagsSnapshot : (handlerIn .flags).h.seq = .flags := by decide
theorem witness_PacketSentServed :
    (handlerIn .sent).h.seq = .sent ∧ ({ txDone := true, rxDone := false, cadDone := false, cadDetected := false } : IrqFlags).txDone = true := by
  decide
theorem witness_PacketReceivedServed :
    (handlerIn .read).h.seq = .read ∧ ({ txDone := false, rxDone := true, cadDone := false, cadDetected := false } : IrqFlags).rxDone = true := by
  decide
/-- A bad CRC; a good CRC with a length of three; three bytes beside a length of four; an address next to the session's. -/
theorem witness_FilterDropsSilently :
    (handlerIn .filter).h.seq = .filter ∧ (handlerIn .filter).h.crc = false ∧
    { (filtering [1, 2, 3]).h with len := 4 }.buf.length < 4 ∧ ¬ { (filtering [1, 2, 3]).h with len := 4 }.len.toNat < 4 ∧
    (filtering [1, 2, 3]).h.seq = .filter ∧ (filtering [1, 2, 3]).h.crc = true ∧ (filtering [1, 2, 3]).h.len.toNat < 4 ∧
    (filtering [11, 2, 5, 0]).h.buf.head? ≠ some (filtering [11, 2, 5, 0]).session.thisAddr ∧
    (filtering [11, 2, 5, 0]).h.buf.head? ≠ some 255 := by decide
/-- The shortest frame. -/
theorem witness_FilterRunsTheFrameClass :
    (filtering [10, 2, 5, 0]).h.seq = .filter ∧ (filtering [10, 2, 5, 0]).h.crc = true ∧
    4 ≤ (filtering [10, 2, 5, 0]).h.len.toNat ∧
    (filtering [10, 2, 5, 0]).h.buf.head? = some (filtering [10, 2, 5, 0]).session.thisAddr ∧
    decode {} (.frame (filtering [10, 2, 5, 0]).h.buf) = some (.frameDataUcast 10 2 5 0 []) := by decide
theorem witness_DeliveryRecord : (handlerIn .deliver).h.seq = .deliver := by decide
/-- Every gate phase of either sequencer (the seven statements about the gate). -/
theorem witness_gate_phases (p : GatePhase) :
    (callerIn (.gate p) .send).c.seq = .gate p ∧ (handlerIn (.gate p)).h.seq = .gate p := ⟨rfl, rfl⟩
/-- A report; the end of the window at its first tick; one tick before it. -/
theorem witness_GatePollsTheReport :
    { openState.radio.irqf with cadDone := true }.cadDone = true ∧ openState.radio.irqf.cadDone = false ∧
    (callerIn (.gate .poll) .send).c.gate.wdl ≤ (callerIn (.gate .poll) .send).now ∧
    (callerIn (.gate .poll) .send).now < { openState.c.gate with wdl := 1 }.wdl := by decide
/-- The bound reached exactly, and one tick before it. -/
theorem witness_GateBacksOffUntilTheBound :
    openState.session.cadTimeout.toNat ≤ { openState with now := 1000 }.now - openState.c.gate.t0 ∧
    { openState with now := 999 }.now - openState.c.gate.t0 < openState.session.cadTimeout.toNat := by decide
theorem witness_GateDetectsAgain :
    openState.c.gate.bdl ≤ openState.now ∧ openState.now < { openState.h.gate with bdl := 1 }.bdl := by decide
/-- The shortest frame and the longest. -/
theorem witness_GateStagesItsFrame :
    4 ≤ ([2, 10, 1, 0x80] : Bytes).length ∧ (List.replicate 255 (0 : Byte)).length ≤ openState.params.fifoCap := by
  simp only [List.length_replicate]
  decide
/-- The enabled case; each way of being disabled. -/
theorem witness_TransmissionCompletes :
    transmitting.session.isOpen = true ∧ transmitting.session.mode = .transmitting ∧
    transmitting.radio.txInflight = true ∧
    State.reset.session.isOpen = false ∧ openState.session.mode ≠ .transmitting ∧ openState.radio.txInflight = false := by
  decide
/-- A frame of no bytes and one of 255; both modes; a mode that receives nothing. -/
theorem witness_FrameIsDeposited :
    ([] : Bytes).length ≤ 255 ∧ (List.replicate 255 (0 : Byte)).length ≤ 255 ∧ openState.session.isOpen = true ∧
    openState.session.mode = .idle ∧ State.reset.session.mode ≠ .idle ∧ State.reset.session.mode ≠ .receiving := by
  simp only [List.length_replicate, Nat.le_refl, true_and]
  decide
theorem witness_DetectionReports :
    detecting.session.isOpen = true ∧ detecting.session.mode = .channelListen ∧ detecting.radio.cadInflight = true ∧
    openState.session.mode ≠ .channelListen ∧ openState.radio.cadInflight = false := by decide
/-- A phase of each sequencer and the caller's idle phase. -/
theorem witness_StepRecordsRunTheSelectedPhase :
    decode {} (.phaseC (callerIn .wWait .sendw).c.seq (callerIn .wWait .sendw).c.op) = some .wWait ∧
    decode {} (.phaseH (handlerIn .read).h.seq) = some .hRead ∧ openState.c.seq = .idle := by decide

/-- A waiting `WAITSENT` and a handler at `H_FLAGS` have the invariant. -/
theorem inv_waiting :
    Inv
      { callerIn .sWait .waitsent with
        h := { (callerIn .sWait .waitsent).h with seq := .flags }, script := [.evt [0x90]] } := by
  constructor <;> simp [callerIn, openState, State.reset, Session.reset, Radio.reset, callerHasFrame]

theorem witness_EveryStepKeepsInv :
    ∃ s t, Inv s ∧ step s = .next t := ⟨_, _, inv_waiting, rfl⟩
/-- Both sequencers in gate phase `p`, each with a frame; the deadline 7 reached exactly. -/
def gating (p : GatePhase) : State :=
  { openState with
    c := { seq := .gate p, op := .send, gate := { frame := [10, 2, 1, 0], t0 := 0, wdl := 7, bdl := 7 }, dl := 99 }
    h := { openState.h with seq := .gate p, gate := { frame := [10, 2, 1, 0x80], t0 := 0, wdl := 7, bdl := 7 } }
    now := 7 }

theorem inv_gating (p : GatePhase) : Inv (gating p) := by
  constructor <;>
    simp [gating, openState, State.reset, Session.reset, Radio.reset, callerHasFrame, frameSized]

/-- A `SENDW` waits for its ACK; the deadline 0 is reached. -/
theorem inv_ack_wait :
    Inv { callerIn .wWait .sendw with c := { (callerIn .wWait .sendw).c with gate := (gating .trig).c.gate } } := by
  constructor <;>
    simp [callerIn, gating, openState, State.reset, Session.reset, Radio.reset, callerHasFrame, frameSized]

/-- A handler at `G_FIFO`, the phase that could fault, about to step. -/
theorem witness_GoodStatesNeverFault : ∃ s, Inv s ∧ s.h.seq = .gate .fifo := ⟨_, inv_gating .fifo, rfl⟩
/-- Each clause: the gate's two waits and another of its phases, for both sequencers, with `C.DL` not reached; the two
waits of the caller. -/
theorem witness_EveryHoldEndsAtItsDeadline :
    (∀ p, Inv (gating p) ∧ (gating p).c.seq = .gate p ∧ (gating p).h.seq = .gate p ∧
      (gating p).c.gate.wdl = (gating p).now ∧ (gating p).c.gate.bdl = (gating p).now ∧
      (gating p).h.gate.wdl = (gating p).now ∧ (gating p).h.gate.bdl = (gating p).now ∧
      (gating p).now < (gating p).c.dl) ∧
    (∃ s, Inv s ∧ s.c.seq = .wWait ∧ s.session.pendDeadline ≤ s.now) ∧
    (∃ s, Inv s ∧ s.c.seq = .sWait ∧ s.c.dl ≤ s.now ∧ s.h.seq = .flags) :=
  ⟨fun p => ⟨inv_gating p, rfl, rfl, rfl, rfl, rfl, rfl, (by decide : 7 < 99)⟩, ⟨_, inv_ack_wait, by decide⟩,
    ⟨_, inv_waiting, by decide⟩⟩
theorem witness_QuiescentSequencersHold : quiescent openState = true ∧ quiescent State.reset = true := by decide
/-- The holds of `StopsAreNamed`: no edge; a gate one tick before its deadlines, both sequencers; the two waits of the
caller one tick before theirs; the idle caller. -/
theorem witness_StopsAreNamed_holds :
    (openState.h.seq = .idle ∧ openState.radio.irqPend = false ∧ openState.c.seq = .idle) ∧
    (∀ a, inGate a .poll { gating .poll with now := 6 } = true ∧ (gating .poll).radio.irqf.cadDone = false ∧
      6 < (gateRegs a (gating .poll)).wdl ∧
      inGate a .backoff { gating .backoff with now := 6 } = true ∧ 6 < (gateRegs a (gating .backoff)).bdl) ∧
    ((callerIn .wWait .sendw).c.seq = .wWait ∧ (callerIn .wWait .sendw).session.ackOk = false ∧
      (callerIn .wWait .sendw).now < { openState.session with pendDeadline := 1 }.pendDeadline) ∧
    ((callerIn .sWait .waitsent).c.seq = .sWait ∧ transmitting.session.txDone = false ∧
      (callerIn .sWait .waitsent).now < { openState.c with dl := 1 }.dl) := by
  refine ⟨by decide, fun a => ?_, by decide, by decide⟩
  cases a <;> decide
/-- The events and records of `StopsAreNamed`: a closed session with a transmission in flight (between the two
micro-steps of `CLOSE`), a mode that completes, reports or receives nothing, no `CLOSE` half done, a record too long,
one that decodes to nothing, none. -/
theorem witness_StopsAreNamed_events :
    closingState.session.isOpen = false ∧ { closingState with radio := transmitting.radio }.radio.txInflight = true ∧
    openState.session.mode ≠ .transmitting ∧ openState.session.mode ≠ .channelListen ∧
    detecting.session.mode ≠ .idle ∧ detecting.session.mode ≠ .receiving ∧
    openState.radio.txInflight = false ∧ openState.radio.cadInflight = false ∧ openState.session.closing = false ∧
    255 < (List.replicate 256 (0 : Byte)).length ∧ (List.replicate 255 (0 : Byte)).length ≤ 255 ∧
    decode openState.params (.record (.evt [0x84])) = none ∧ State.reset.script = [] := by
  simp only [List.length_replicate]
  decide
/-- The unselected rows of `StopsAreNamed`, and the fault at three bytes and at one more than `FIFO_CAP`. -/
theorem witness_StopsAreNamed_rows :
    inGate .c .start openState = false ∧ inGate .h .poll openState = false ∧ openState.h.seq ≠ .filter ∧
    openState.h.seq ≠ .sent ∧ (handlerIn .sent).radio.irqf.txDone = false ∧ openState.h.seq ≠ .read ∧
    (handlerIn .read).radio.irqf.rxDone = false ∧ (gating .poll).radio.irqf.cadDone = false ∧
    (callerIn .after .sendw).c.op ≠ .send ∧ (callerIn .after .send).c.op ≠ .sendw ∧
    (callerIn .after .waitsent).c.seq = .after ∧ (callerIn .after .waitsent).c.op = .waitsent ∧
    openState.c.seq ≠ .wWait ∧ openState.c.seq ≠ .sWait ∧
    inGate .h .fifo (gating .fifo) = true ∧ ([1, 2, 3] : Bytes).length < 4 ∧
    (gateRegs .h (gating .fifo)).frame.length ≤ (gating .fifo).params.fifoCap ∧
    (gating .fifo).params.fifoCap < (List.replicate 256 (0 : Byte)).length := by
  simp only [List.length_replicate]
  decide
/-- An `INIT` that is accepted and one that is refused (the second clause of `OnlyInitConfigures`). -/
theorem witness_OnlyInitConfigures :
    (∃ t, exec (.init 2 1 14 0 1000 200 500) State.reset = .next t) ∧
    (∃ t, exec (.init 255 1 14 0 1000 200 500) State.reset = .next t) := ⟨⟨_, rfl⟩, ⟨_, rfl⟩⟩
/-- Steps of instructions that are not `INIT` and not `EV.TICK`: `TickAdvancesTime`, `OnlyInitConfigures`,
`ModeChangesOnlyAsListed`, `TracesGrowAndFaultsStick` (with a fault bit standing), `OnlyStagingAndDepositWriteTheFifo`. -/
theorem witness_whole_machine_rules :
    (∃ t, exec .modeRx openState = .next t) ∧ Instr.modeRx ≠ .stepC ∧ Instr.modeRx ≠ .stepH ∧
    (∃ t, exec .evTick (faultCipherLength openState) = .next t) ∧
    (faultCipherLength openState).session.faultCipherLength = true := ⟨⟨_, rfl⟩, nofun, nofun, ⟨_, rfl⟩, rfl⟩
/-- A step of each context, from a state where both signals stand. -/
theorem witness_ContextsKeepToTheirOwn :
    (∃ t, exec .stepC (callerIn .sWait .waitsent) = .next t ∧ t.session.txDone = true) ∧
    (∃ t, exec .stepH (handlerIn .flags) = .next t) := ⟨⟨_, rfl, rfl⟩, ⟨_, rfl⟩⟩

end Sys2Proof.Tests
end

section
/-! The stops of the model by name (`StopsAreNamed`): first what each enabling condition being false says, then one
lemma per kind of stop (a hold, an event that is not enabled, no record, a row no register selects, the fault). -/

namespace Sys2Proof.Machine

open Sys2Proof

section Stops

variable {s : State} {a : Sequencer} {p : GatePhase}

/-! ### Enabling conditions that are false -/

theorem stepIf_of_false {b : Bool} {r : Refusal} {n : State} (h : b = false) : stepIf b r n = .refused r := by
  subst h
  rfl

theorem stepIf_decide_of_not {q : Prop} [Decidable q] {r : Refusal} {n : State} (h : ¬ q) :
    stepIf (decide q) r n = .refused r :=
  stepIf_of_false (decide_eq_false h)

theorem expired_eq_false_iff {now deadline : Nat} : expired now deadline = false ↔ now < deadline := by
  simp [expired]

theorem txdoneEnabled_eq_false_iff :
    txdoneEnabled s = false ↔
      s.session.isOpen = false ∨ s.session.mode ≠ .transmitting ∨ s.radio.txInflight = false := by
  simp only [txdoneEnabled, Bool.and_eq_false_iff, decide_eq_false_iff_not, ne_eq, or_assoc]

theorem caddoneEnabled_eq_false_iff :
    caddoneEnabled s = false ↔
      s.session.isOpen = false ∨ s.session.mode ≠ .channelListen ∨ s.radio.cadInflight = false := by
  simp only [caddoneEnabled, Bool.and_eq_false_iff, decide_eq_false_iff_not, ne_eq, or_assoc]

theorem rxdoneEnabled_eq_false_iff :
    rxdoneEnabled s = false ↔
      s.session.isOpen = false ∨ (s.session.mode ≠ .idle ∧ s.session.mode ≠ .receiving) := by
  simp only [rxdoneEnabled, receiveCapable, Bool.and_eq_false_iff, decide_eq_false_iff_not, not_or, ne_eq]

theorem closeReady_eq_false_iff :
    closeReady s = false ↔
      s.session.closing = false ∨ s.h.seq ≠ .idle ∨
        (s.c.seq ≠ .idle ∧ s.c.seq ≠ .wWait ∧ s.c.seq ≠ .sWait) := by
  simp only [closeReady, Bool.and_eq_false_iff, decide_eq_false_iff_not, not_or, ne_eq, or_assoc]

theorem fifoWritable_eq_false_iff {par : Params} {b : Bytes} :
    fifoWritable par b = false ↔ b.length < 4 ∨ par.fifoCap < b.length := by
  simp [fifoWritable, Config.hdrLen, imp_iff_not_or]

/-! ### Holds (R9) -/

theorem exec_hIdle_hold (hp : s.h.seq = .idle) (h : s.radio.irqPend = false ∨ s.session.isOpen = false) :
    exec .hIdle s = .refused .hold := by
  have hoff : (s.radio.irqPend && s.session.isOpen) = false := Bool.and_eq_false_iff.mpr h
  calc exec .hIdle s
      = stepIf (s.radio.irqPend && s.session.isOpen) .hold (enterHandler s) := if_neg (not_not_intro hp)
    _ = .refused .hold := stepIf_of_false hoff

theorem exec_gPoll_hold (hg : inGate a .poll s = true) (hr : s.radio.irqf.cadDone = false)
    (hd : s.now < (gateRegs a s).wdl) : exec (.gPoll a) s = .refused .hold := by
  simp [exec, execGPoll, hg, hr, stepIf_of_false (expired_eq_false_iff.mpr hd)]

theorem exec_gBackoff_hold (hg : inGate a .backoff s = true) (hd : s.now < (gateRegs a s).bdl) :
    exec (.gBackoff a) s = .refused .hold := by
  simp [exec, execGBackoff, hg, stepIf_of_false (expired_eq_false_iff.mpr hd)]

theorem exec_wWait_hold (hp : s.c.seq = .wWait) (ha : s.session.ackOk = false)
    (hd : s.now < s.session.pendDeadline) : exec .wWait s = .refused .hold := by
  simp [exec, execWWait, hp, ha, stepIf_of_false (expired_eq_false_iff.mpr hd)]

theorem exec_sWait_hold (hp : s.c.seq = .sWait) (ht : s.session.txDone = false) (hd : s.now < s.c.dl) :
    exec .sWait s = .refused .hold := by
  simp [exec, execSWait, hp, ht, stepIf_of_false (expired_eq_false_iff.mpr hd)]

theorem exec_stepC_idle (hp : s.c.seq = .idle) : exec .stepC s = .refused .hold := by
  simp [exec, execStepC, hp]

/-! ### Steps that are not enabled (R100, R225, R242) -/

theorem exec_evTxdone_notEnabled (h : txdoneEnabled s = false) : exec .evTxdone s = .refused .notEnabled :=
  stepIf_of_false h

theorem exec_evCaddone_notEnabled (d : Bool) (h : caddoneEnabled s = false) :
    exec (.evCaddone d) s = .refused .notEnabled :=
  stepIf_of_false h

theorem exec_stepX_notEnabled (h : closeReady s = false) : exec .stepX s = .refused .notEnabled :=
  stepIf_of_false h

/-- An `EV.RXDONE` that fits its count byte is the deposit, when the radio can deposit. -/
theorem exec_evRxdone_of_le (v : Bool) (rssi snr : Byte) {b : Bytes} (hb : b.length ≤ 255) :
    exec (.evRxdone v rssi snr b) s =
      stepIf (rxdoneEnabled s) .notEnabled
        (raiseIrq { s.radio.irqf with rxDone := true } { s with radio := deposit v rssi snr b s.radio }) :=
  if_neg (Nat.not_lt.mpr hb)

theorem exec_evRxdone_notEnabled (v : Bool) (rssi snr : Byte) {b : Bytes} (hb : b.length ≤ 255)
    (h : rxdoneEnabled s = false) : exec (.evRxdone v rssi snr b) s = .refused .notEnabled :=
  (exec_evRxdone_of_le v rssi snr hb).trans (stepIf_of_false h)

/-! ### Records that are none (R100) -/

theorem exec_evRxdone_too_long (v : Bool) (rssi snr : Byte) {b : Bytes} (hb : 255 < b.length) :
    exec (.evRxdone v rssi snr b) s = .refused .malformedRecord :=
  if_pos hb

theorem step_of_fetch_error {r : Refusal} (h : fetch s = .error r) : step s = .refused r := by
  simp [step, h]

theorem step_of_no_record (h : s.script = []) : step s = .refused .noRecord :=
  step_of_fetch_error (by simp [fetch, h])

theorem step_of_undecodable {r : Record} {later : List Record} (hs : s.script = r :: later)
    (hd : decode s.params (.record r) = none) : step s = .refused .malformedRecord :=
  step_of_fetch_error (by simp [fetch, hs, hd])

/-! ### Rows no register selects (R112) -/

/-- A gate row run as an instruction is the micro-step the step records take. -/
theorem exec_gateInstr (a : Sequencer) (p : GatePhase) (s : State) : exec (gateInstr a p) s = stepGate a p s := by
  cases p <;> rfl

theorem stepGate_notSelected (h : inGate a p s = false) : stepGate a p s = .refused .notSelected := by
  cases p with
  | start | cad | busy | trig => exact stepIf_of_false h
  | poll => simp [stepGate, execGPoll, h]
  | backoff => simp [stepGate, execGBackoff, h]
  | fifo => simp [stepGate, execGFifo, h]

/-- A handler phase that is no gate phase runs only when `H.SEQ` names it. -/
theorem exec_selectH_notSelected {q : HPhase} (h : s.h.seq ≠ q) (hq : ∀ g, q ≠ .gate g) :
    exec (selectH q) s = .refused .notSelected := by
  cases q with
  | idle | filter => exact if_pos h
  | flags | sent | read | deliver => exact stepIf_decide_of_not h
  | gate g => exact absurd rfl (hq g)

theorem exec_frameAck_notSelected (h : s.h.seq ≠ .filter) (dst src id flags : Byte) (b : Bytes) :
    exec (.frameAck dst src id flags b) s = .refused .notSelected :=
  stepIf_decide_of_not h

theorem exec_frameDataBcast_notSelected (h : s.h.seq ≠ .filter) (src id flags : Byte) (b : Bytes) :
    exec (.frameDataBcast src id flags b) s = .refused .notSelected :=
  stepIf_decide_of_not h

theorem exec_frameDataUcast_notSelected (h : s.h.seq ≠ .filter) (dst src id flags : Byte) (b : Bytes) :
    exec (.frameDataUcast dst src id flags b) s = .refused .notSelected :=
  stepIf_decide_of_not h

theorem exec_irqSent_notSelected (h : s.h.seq ≠ .sent ∨ s.radio.irqf.txDone = false) :
    exec .irqSent s = .refused .notSelected :=
  stepIf_of_false (by rcases h with h | h <;> simp [h])

theorem exec_irqRecv_notSelected (h : s.h.seq ≠ .read ∨ s.radio.irqf.rxDone = false) :
    exec .irqRecv s = .refused .notSelected :=
  stepIf_of_false (by rcases h with h | h <;> simp [h])

theorem exec_irqCad_notSelected (h : inGate a .poll s = false ∨ s.radio.irqf.cadDone = false) :
    exec (.irqCad a) s = .refused .notSelected :=
  stepIf_of_false (by rcases h with h | h <;> simp [h])

theorem exec_cAfterSend_notSelected (h : s.c.seq ≠ .after ∨ s.c.op ≠ .send) :
    exec .cAfterSend s = .refused .notSelected :=
  stepIf_decide_of_not (not_and_or.mpr h)

theorem exec_cAfterSendw_notSelected (h : s.c.seq ≠ .after ∨ s.c.op ≠ .sendw) :
    exec .cAfterSendw s = .refused .notSelected :=
  stepIf_decide_of_not (not_and_or.mpr h)

/-- `C_AFTER` of a `WAITSENT` selects no row: `WAITSENT` does not use the gate. -/
theorem exec_stepC_after_waitsent (hp : s.c.seq = .after) (ho : s.c.op = .waitsent) :
    exec .stepC s = .refused .notSelected := by
  simp [exec, execStepC, hp, ho]

theorem exec_wWait_notSelected (h : s.c.seq ≠ .wWait) : exec .wWait s = .refused .notSelected := if_pos h

theorem exec_sWait_notSelected (h : s.c.seq ≠ .sWait) : exec .sWait s = .refused .notSelected := if_pos h

/-! ### The fault (R64) -/

theorem exec_gFifo_fault (hg : inGate a .fifo s = true) (hw : fifoWritable s.params (gateRegs a s).frame = false) :
    exec (.gFifo a) s = .fault (.fifoLength (gateRegs a s).frame.length) := by
  simp [exec, execGFifo, hg, hw]

end Stops

/-- Settles O49: each stop is the lemma above of its kind, the conditions of the events and of the FIFO write read off
their enabling tests. -/
theorem stopsAreNamed : Obligations.StopsAreNamed := fun _ =>
  ⟨-- holds
    exec_hIdle_hold,
    fun _ => exec_gPoll_hold,
    fun _ => exec_gBackoff_hold,
    exec_wWait_hold,
    exec_sWait_hold,
    exec_stepC_idle,
    -- not enabled
    fun h => exec_evTxdone_notEnabled (txdoneEnabled_eq_false_iff.mpr h),
    fun h d => exec_evCaddone_notEnabled d (caddoneEnabled_eq_false_iff.mpr h),
    fun h v rssi snr _ hb => exec_evRxdone_notEnabled v rssi snr hb (rxdoneEnabled_eq_false_iff.mpr h),
    fun h => exec_stepX_notEnabled (closeReady_eq_false_iff.mpr h),
    -- no record
    fun v rssi snr _ hb => exec_evRxdone_too_long v rssi snr hb,
    fun _ _ => step_of_undecodable,
    step_of_no_record,
    -- not selected
    fun a p h => (exec_gateInstr a p _).trans (stepGate_notSelected h),
    fun _ => exec_selectH_notSelected,
    fun h dst src id flags b =>
      ⟨exec_frameAck_notSelected h dst src id flags b, exec_frameDataBcast_notSelected h src id flags b,
        exec_frameDataUcast_notSelected h dst src id flags b⟩,
    exec_irqSent_notSelected,
    exec_irqRecv_notSelected,
    fun _ => exec_irqCad_notSelected,
    exec_cAfterSend_notSelected,
    exec_cAfterSendw_notSelected,
    exec_stepC_after_waitsent,
    exec_wWait_notSelected,
    exec_sWait_notSelected,
    -- the fault
    fun _ hg h => exec_gFifo_fault hg (fifoWritable_eq_false_iff.mpr h)⟩

end Sys2Proof.Machine
end

section
/-! The composite operations: `SetMode`, `FifoWrite`, the draw of an `Encode`, the capture of a received frame, the two
halves of an accepted `SENDW`. One equation or one `simp` lemma per field; later proofs do not unfold them. -/

namespace Sys2Proof.Machine

open Sys2Proof

/-! ### `setMode` (R141) -/

/-- `SetMode` as one record update; what it does not name is unchanged. -/
theorem setMode_eq (m : Mode) (s : State) :
    setMode m s =
      { s with
        session := { s.session with mode := m, txDone := s.session.txDone && decide (m ≠ .transmitting) }
        radio :=
          { s.radio with
            irqf :=
              { s.radio.irqf with
                cadDone := (setMode m s).radio.irqf.cadDone
                cadDetected := (setMode m s).radio.irqf.cadDetected }
            txInflight := decide (m = .transmitting)
            txBytes := (setMode m s).radio.txBytes
            cadInflight := decide (m = .channelListen) }
        port := (setMode m s).port
        draws := (setMode m s).draws } := by
  cases m with
  | transmitting =>
    by_cases h : s.radio.fifoSrc = .tx <;> simp [setMode, enterMode, cancelInflight, latchTransmission, access, h]
  | channelListen => simp [setMode, enterMode, cancelInflight, startDetection, clearCadFlags, setIrqf, access]
  | sleep | idle | receiving => simp [setMode, enterMode, cancelInflight, access]

@[simp] theorem setMode_session (m : Mode) (s : State) :
    (setMode m s).session =
      { s.session with mode := m, txDone := s.session.txDone && decide (m ≠ .transmitting) } := by rw [setMode_eq]
@[simp] theorem setMode_c (m : Mode) (s : State) : (setMode m s).c = s.c := by rw [setMode_eq]
@[simp] theorem setMode_h (m : Mode) (s : State) : (setMode m s).h = s.h := by rw [setMode_eq]
@[simp] theorem setMode_now (m : Mode) (s : State) : (setMode m s).now = s.now := by rw [setMode_eq]
@[simp] theorem setMode_resp (m : Mode) (s : State) : (setMode m s).resp = s.resp := by rw [setMode_eq]
@[simp] theorem setMode_deliv (m : Mode) (s : State) : (setMode m s).deliv = s.deliv := by rw [setMode_eq]
@[simp] theorem setMode_air (m : Mode) (s : State) : (setMode m s).air = s.air := by rw [setMode_eq]
@[simp] theorem setMode_params (m : Mode) (s : State) : (setMode m s).params = s.params := by rw [setMode_eq]
@[simp] theorem setMode_radio_fifo (m : Mode) (s : State) : (setMode m s).radio.fifo = s.radio.fifo := by
  rw [setMode_eq]
@[simp] theorem setMode_radio_irqf_txDone (m : Mode) (s : State) :
    (setMode m s).radio.irqf.txDone = s.radio.irqf.txDone := by rw [setMode_eq]
@[simp] theorem setMode_radio_irqf_rxDone (m : Mode) (s : State) :
    (setMode m s).radio.irqf.rxDone = s.radio.irqf.rxDone := by rw [setMode_eq]

/-! ### `fifoWrite` (R64) -/

/-- `FifoWrite` as one record update. -/
theorem fifoWrite_eq (b : Bytes) (s : State) :
    fifoWrite b s =
      { s with
        radio := { s.radio with fifo := b, fifoSrc := .tx, txBytes := (fifoWrite b s).radio.txBytes }
        port := s.port ++ [.fifoWrite b]
        draws := (fifoWrite b s).draws } := by
  obtain ⟨-, -, -, -, h⟩ := fifoWrite_spec b s
  exact h

@[simp] theorem fifoWrite_session (b : Bytes) (s : State) : (fifoWrite b s).session = s.session := by rw [fifoWrite_eq]
@[simp] theorem fifoWrite_c (b : Bytes) (s : State) : (fifoWrite b s).c = s.c := by rw [fifoWrite_eq]
@[simp] theorem fifoWrite_h (b : Bytes) (s : State) : (fifoWrite b s).h = s.h := by rw [fifoWrite_eq]
@[simp] theorem fifoWrite_now (b : Bytes) (s : State) : (fifoWrite b s).now = s.now := by rw [fifoWrite_eq]
@[simp] theorem fifoWrite_resp (b : Bytes) (s : State) : (fifoWrite b s).resp = s.resp := by rw [fifoWrite_eq]
@[simp] theorem fifoWrite_deliv (b : Bytes) (s : State) : (fifoWrite b s).deliv = s.deliv := by rw [fifoWrite_eq]
@[simp] theorem fifoWrite_air (b : Bytes) (s : State) : (fifoWrite b s).air = s.air := by rw [fifoWrite_eq]
@[simp] theorem fifoWrite_params (b : Bytes) (s : State) : (fifoWrite b s).params = s.params := by rw [fifoWrite_eq]
@[simp] theorem fifoWrite_radio_irqf (b : Bytes) (s : State) : (fifoWrite b s).radio.irqf = s.radio.irqf := by rw [fifoWrite_eq]

/-! ### `encodeDrawn` (R121) -/

/-- The draw of an `Encode` counts at most the draw. -/
theorem encodeDrawn_eq (s : State) : encodeDrawn s = { s with draws := (encodeDrawn s).draws } := by
  unfold encodeDrawn
  split <;> rfl

@[simp] theorem encodeDrawn_session (s : State) : (encodeDrawn s).session = s.session := by rw [encodeDrawn_eq]
@[simp] theorem encodeDrawn_radio (s : State) : (encodeDrawn s).radio = s.radio := by rw [encodeDrawn_eq]
@[simp] theorem encodeDrawn_c (s : State) : (encodeDrawn s).c = s.c := by rw [encodeDrawn_eq]
@[simp] theorem encodeDrawn_h (s : State) : (encodeDrawn s).h = s.h := by rw [encodeDrawn_eq]
@[simp] theorem encodeDrawn_now (s : State) : (encodeDrawn s).now = s.now := by rw [encodeDrawn_eq]
@[simp] theorem encodeDrawn_resp (s : State) : (encodeDrawn s).resp = s.resp := by rw [encodeDrawn_eq]
@[simp] theorem encodeDrawn_deliv (s : State) : (encodeDrawn s).deliv = s.deliv := by rw [encodeDrawn_eq]
@[simp] theorem encodeDrawn_air (s : State) : (encodeDrawn s).air = s.air := by rw [encodeDrawn_eq]
@[simp] theorem encodeDrawn_params (s : State) : (encodeDrawn s).params = s.params := by rw [encodeDrawn_eq]

/-- An encoded frame starts with its header and is one that `FifoWrite` is given for (R121, R123). -/
theorem encodeFrame_some {hd : Header} {p f : Bytes} {s : State} (h : encodeFrame hd p s = some f) :
    f.head? = some hd.dst ∧ f[2]? = some hd.id ∧ frameSized s.params f := by
  obtain ⟨hcap, rfl⟩ := encodeWith_eq_some.mp h
  have hbody : (encodeBody (sessionCipher s) (freeBytes s.draws (padLen (sessionCipher s) p.length)) p).length =
      p.length + padLen (sessionCipher s) p.length := by
    cases sessionCipher s <;> simp [encodeBody, padLen]
  refine ⟨rfl, rfl, ?_, ?_⟩
  · simp
  · rw [List.length_append, headerBytes_length, hbody, ← Nat.add_assoc]
    exact hcap

/-! ### The record and the counter of a `SENDW` (R183) -/

/-- Making the record writes session registers only. -/
theorem makeRecord_eq (dst id retries : Byte) (s : State) :
    makeRecord dst id retries s = { s with session := (makeRecord dst id retries s).session } := by
  unfold makeRecord
  split <;> rfl

@[simp] theorem makeRecord_faultCipherLength (dst id retries : Byte) (s : State) :
    (makeRecord dst id retries s).session.faultCipherLength = s.session.faultCipherLength := by
  unfold makeRecord
  split <;> rfl
@[simp] theorem makeRecord_radio (dst id retries : Byte) (s : State) :
    (makeRecord dst id retries s).radio = s.radio := by rw [makeRecord_eq]
@[simp] theorem makeRecord_now (dst id retries : Byte) (s : State) :
    (makeRecord dst id retries s).now = s.now := by rw [makeRecord_eq]
@[simp] theorem makeRecord_resp (dst id retries : Byte) (s : State) :
    (makeRecord dst id retries s).resp = s.resp := by rw [makeRecord_eq]
@[simp] theorem makeRecord_deliv (dst id retries : Byte) (s : State) :
    (makeRecord dst id retries s).deliv = s.deliv := by rw [makeRecord_eq]
@[simp] theorem makeRecord_air (dst id retries : Byte) (s : State) :
    (makeRecord dst id retries s).air = s.air := by rw [makeRecord_eq]
@[simp] theorem makeRecord_params (dst id retries : Byte) (s : State) :
    (makeRecord dst id retries s).params = s.params := by rw [makeRecord_eq]

@[simp] theorem useNextId_session (s : State) :
    (useNextId s).session = { s.session with lastId := nextId s.session.lastId, ackOk := false } := rfl
@[simp] theorem useNextId_radio (s : State) : (useNextId s).radio = s.radio := rfl
@[simp] theorem useNextId_now (s : State) : (useNextId s).now = s.now := rfl
@[simp] theorem useNextId_resp (s : State) : (useNextId s).resp = s.resp := rfl
@[simp] theorem useNextId_deliv (s : State) : (useNextId s).deliv = s.deliv := rfl
@[simp] theorem useNextId_air (s : State) : (useNextId s).air = s.air := rfl
@[simp] theorem useNextId_params (s : State) : (useNextId s).params = s.params := rfl

/-! ### The handler's operations (R127, R164, R189, R191) -/

/-- `AckMatch` writes the record's valid bit and the wake-up. -/
theorem ackMatch_eq (src id : Byte) (s : State) :
    ackMatch src id s =
      { s with
        session :=
          { s.session with
            pendValid := s.session.pendValid && !ackMatches src id s
            ackOk := s.session.ackOk || ackMatches src id s } } := by
  unfold ackMatch
  cases h : ackMatches src id s <;> simp [setAckOk]

/-- `FifoRead` writes the port trace and the draw count only (R64). -/
theorem fifoReadState_eq (n : Nat) (s : State) :
    fifoReadState n s = { s with port := s.port ++ [.fifoRead n], draws := (fifoReadState n s).draws } := by
  unfold fifoReadState
  split <;> rfl

/-- The packet-received arm as one record update (R164). -/
theorem servePacketReceived_eq (s : State) :
    servePacketReceived s =
      { s with
        radio := { s.radio with irqf := { s.radio.irqf with rxDone := false }, crcValid := false }
        h :=
          { s.h with
            len := s.radio.rxNb
            buf := fifoReadBytes s.radio.rxNb.toNat (clearRxDoneFlag s)
            crc := s.radio.crcValid
            rssi := s.radio.rssiRaw
            snr := s.radio.snrRaw
            seq := .filter }
        port := (servePacketReceived s).port
        draws := (servePacketReceived s).draws } := by
  dsimp only [servePacketReceived, captureFrame]
  rw [fifoReadState_eq]
  rfl

/-- The auto-ACK's frame is its header: the payload is empty (R191). -/
theorem startAutoAck_eq (hd : Header) (s : State) :
    startAutoAck hd s =
      { s with
        h :=
          { s.h with
            seq := .gate .start
            gate := { s.h.gate with frame := headerBytes (ownHeader s hd.src hd.id s.params.ackMask) } }
        draws := (encodeDrawn s).draws } := by
  simp only [startAutoAck, encodeFrame_empty]
  rw [encodeDrawn_eq]

/-! ### Standing in a gate phase, and the gate registers, under updates of other registers (R200) -/

@[simp] theorem inGate_setMode (a : Sequencer) (p : GatePhase) (m : Mode) (s : State) :
    inGate a p (setMode m s) = inGate a p s := by cases a <;> simp [inGate]
@[simp] theorem inGate_fifoWrite (a : Sequencer) (p : GatePhase) (b : Bytes) (s : State) :
    inGate a p (fifoWrite b s) = inGate a p s := by cases a <;> simp [inGate]
@[simp] theorem inGate_setGateRegs (a : Sequencer) (p : GatePhase) (g : GateRegs) (s : State) :
    inGate a p (setGateRegs a g s) = inGate a p s := by cases a <;> rfl
@[simp] theorem gateRegs_setMode (a : Sequencer) (m : Mode) (s : State) :
    gateRegs a (setMode m s) = gateRegs a s := by cases a <;> simp [gateRegs]

end Sys2Proof.Machine
end

section
/-! What a next state can be. One inductive relation per agent (a gate, the caller sequencer after its gate, the handler,
the host's commands with the second micro-step of `CLOSE`, the environment) lists its micro-steps with their enabling
conditions; `exec_cases` ties them to `exec`. A proof about all next states is a case split on these relations. -/

namespace Sys2Proof.Machine

open Sys2Proof

section Steps

variable {s t : State}

/-! ### The gate (R200 to R208) -/

/-- The micro-steps of sequencer `a` in a gate phase. -/
inductive GateStep (a : Sequencer) (s : State) : GatePhase → State → Prop
  | start (hg : inGate a .start s = true) :
    GateStep a s .start (setGatePhase a .cad (setGateRegs a { gateRegs a s with t0 := s.now } s))
  | detect (hg : inGate a .cad s = true) :
    GateStep a s .cad
      (setGatePhase a .poll
        (setGateRegs a { gateRegs a s with wdl := s.now + Config.cadWindow } (setMode .channelListen s)))
  | report (hg : inGate a .poll s = true) : GateStep a s .poll (takeReport a s)
  | windowEnd (hg : inGate a .poll s = true) : GateStep a s .poll (setGatePhase a .fifo (access .readIrqf s))
  | boundReached (hg : inGate a .busy s = true) : GateStep a s .busy (setGatePhase a .fifo s)
  | backOff (hg : inGate a .busy s = true) :
    GateStep a s .busy
      (drawn (setGatePhase a .backoff (setGateRegs a { gateRegs a s with bdl := s.now + freeInterval s.draws } s)))
  | retry (hg : inGate a .backoff s = true) : GateStep a s .backoff (setGatePhase a .cad s)
  | stage (hg : inGate a .fifo s = true) (hw : fifoWritable s.params (gateRegs a s).frame = true) :
    GateStep a s .fifo (setGatePhase a .trig (fifoWrite (gateRegs a s).frame s))
  | trigger (hg : inGate a .trig s = true) : GateStep a s .trig (leaveGate a (setMode .transmitting s))

theorem stepGate_cases {a : Sequencer} {p : GatePhase} (e : stepGate a p s = .next t) : GateStep a s p t := by
  cases p with
  | start => obtain ⟨hg, rfl⟩ := stepIf_eq_next.mp e; exact .start hg
  | cad => obtain ⟨hg, rfl⟩ := stepIf_eq_next.mp e; exact .detect hg
  | poll =>
    simp only [stepGate, execGPoll] at e
    split at e
    · cases e
    next hg =>
      rw [Bool.not_eq_true', Bool.not_eq_false] at hg
      split at e
      · cases e; exact .report hg
      · obtain ⟨-, rfl⟩ := stepIf_eq_next.mp e; exact .windowEnd hg
  | busy =>
    obtain ⟨hg, rfl⟩ := stepIf_eq_next.mp e
    split
    · exact .boundReached hg
    · exact .backOff hg
  | backoff =>
    simp only [stepGate, execGBackoff] at e
    split at e
    · cases e
    next hg =>
      rw [Bool.not_eq_true', Bool.not_eq_false] at hg
      obtain ⟨-, rfl⟩ := stepIf_eq_next.mp e
      exact .retry hg
  | fifo =>
    simp only [stepGate, execGFifo] at e
    split at e
    · cases e
    next hg =>
      rw [Bool.not_eq_true', Bool.not_eq_false] at hg
      split at e
      next hw => cases e; exact .stage hg hw
      · cases e
  | trig => obtain ⟨hg, rfl⟩ := stepIf_eq_next.mp e; exact .trigger hg

theorem execIrqCad_cases {a : Sequencer} (e : execIrqCad a s = .next t) : GateStep a s .poll t := by
  obtain ⟨hg, rfl⟩ := stepIf_eq_next.mp e
  exact .report (Bool.and_eq_true_iff.mp hg).2

/-! ### The caller sequencer after its gate (R181, R184, R185, R227) -/

/-- The micro-steps of `C_AFTER`, `W_WAIT` and `S_WAIT`. -/
inductive CallerStep (s : State) : State → Prop
  | sent (hp : s.c.seq = .after) (ho : s.c.op = .send) : CallerStep s (setCPhase .idle (respond opSend .ok [] s))
  | broadcastSent (hp : s.c.seq = .after) (ho : s.c.op = .sendw) (hb : s.c.gate.frame.head? = some 255) :
    CallerStep s (setCPhase .idle (respond opSendw .ok [] s))
  | awaitAck (hp : s.c.seq = .after) (ho : s.c.op = .sendw) (hb : s.c.gate.frame.head? ≠ some 255) :
    CallerStep s
      (setCPhase .wWait
        { s with session := { s.session with pendDeadline := s.now + s.session.retryTimeout.toNat } })
  | acked (hp : s.c.seq = .wWait) (ha : s.session.ackOk = true) : CallerStep s (ackArrived s)
  | resent (hp : s.c.seq = .wWait) : CallerStep s (resend s)
  | gaveUp (hp : s.c.seq = .wWait) (ha : s.session.ackOk = false) : CallerStep s (giveUp s)
  | signalled (hp : s.c.seq = .sWait) : CallerStep s (setCPhase .idle (respond opWaitsent .ok [] s))
  | timedOut (hp : s.c.seq = .sWait) : CallerStep s (setCPhase .idle (respond opWaitsent .transmitTimeout [] s))

theorem execCAfterSend_cases (e : execCAfterSend s = .next t) : CallerStep s t := by
  obtain ⟨hc, rfl⟩ := stepIf_eq_next.mp e
  obtain ⟨hp, ho⟩ := of_decide_eq_true hc
  exact .sent hp ho

theorem execCAfterSendw_cases (e : execCAfterSendw s = .next t) : CallerStep s t := by
  obtain ⟨hc, rfl⟩ := stepIf_eq_next.mp e
  obtain ⟨hp, ho⟩ := of_decide_eq_true hc
  split
  next hb => exact .broadcastSent hp ho (of_decide_eq_true hb)
  next hb => exact .awaitAck hp ho fun h => hb (decide_eq_true h)

theorem execWWait_cases (e : execWWait s = .next t) : CallerStep s t := by
  unfold execWWait at e
  split at e
  · cases e
  next hp =>
    rw [not_not] at hp
    split at e
    next ha => cases e; exact .acked hp ha
    next ha =>
      obtain ⟨-, rfl⟩ := stepIf_eq_next.mp e
      split
      · exact .resent hp
      · exact .gaveUp hp (Bool.eq_false_iff.mpr ha)

theorem execSWait_cases (e : execSWait s = .next t) : CallerStep s t := by
  unfold execSWait at e
  split at e
  · cases e
  next hp =>
    rw [not_not] at hp
    split at e
    · cases e; exact .signalled hp
    · obtain ⟨-, rfl⟩ := stepIf_eq_next.mp e; exact .timedOut hp

/-- A micro-step of `STEP.C` is one of the gate phase that `C.SEQ` names, or one after the gate. -/
theorem execStepC_cases (e : execStepC s = .next t) :
    CallerStep s t ∨ ∃ p, s.c.seq = .gate p ∧ GateStep .c s p t := by
  cases hp : s.c.seq with
  | idle => simp [execStepC, hp] at e
  | gate p => simp only [execStepC, hp] at e; exact .inr ⟨p, rfl, stepGate_cases e⟩
  | after =>
    cases ho : s.c.op with
    | send => simp only [execStepC, hp, ho] at e; exact .inl (execCAfterSend_cases e)
    | sendw => simp only [execStepC, hp, ho] at e; exact .inl (execCAfterSendw_cases e)
    | waitsent => simp [execStepC, hp, ho] at e
  | wWait => simp only [execStepC, hp] at e; exact .inl (execWWait_cases e)
  | sWait => simp only [execStepC, hp] at e; exact .inl (execSWait_cases e)

/-! ### The handler outside its gate (R160 to R168, R188 to R191) -/

/-- The micro-steps of the handler's own phases. -/
inductive HandlerStep (s : State) : State → Prop
  | enter : HandlerStep s (enterHandler s)
  | snapshot :
    HandlerStep s
      (access .readIrqf
        { s with
          h := { s.h with txf := s.radio.irqf.txDone, rxf := s.radio.irqf.rxDone, seq := armOf s.radio.irqf } })
  | served (hp : s.h.seq = .sent) : HandlerStep s (servePacketSent s)
  | received : HandlerStep s (servePacketReceived s)
  | dropped (r : Status) : HandlerStep s (dropFrame r s)
  | undecryptable : HandlerStep s (cipherLengthDrop s)
  | consumed (hd : Header) (m : Bytes) (src id : Byte) :
    HandlerStep s (leaveHandler (ackMatch src id (keepPacket hd m s)))
  | accepted (hd : Header) (m : Bytes) : HandlerStep s (setHPhase .deliver (keepPacket hd m s))
  | acknowledge (hd : Header) (m : Bytes) : HandlerStep s (startAutoAck hd (keepPacket hd m s))
  | delivered : HandlerStep s (leaveHandler { s with deliv := s.deliv ++ [deliveryRecord s] })
  | undelivered : HandlerStep s (leaveHandler s)

theorem execHIdle_cases (e : execHIdle s = .next t) : HandlerStep s t := by
  unfold execHIdle at e
  split at e
  · cases e
  · obtain ⟨-, rfl⟩ := stepIf_eq_next.mp e; exact .enter

theorem execHFlags_cases (e : execHFlags s = .next t) : HandlerStep s t := by
  obtain ⟨-, rfl⟩ := stepIf_eq_next.mp e
  exact .snapshot

theorem execHSent_cases (e : execHSent s = .next t) : HandlerStep s t := by
  obtain ⟨hp, rfl⟩ := stepIf_eq_next.mp e
  exact .served (of_decide_eq_true hp)

theorem execIrqSent_cases (e : execIrqSent s = .next t) : HandlerStep s t := by
  obtain ⟨hc, rfl⟩ := stepIf_eq_next.mp e
  exact .served (of_decide_eq_true (Bool.and_eq_true_iff.mp hc).2)

theorem execHRead_cases (e : execHRead s = .next t) : HandlerStep s t := by
  obtain ⟨-, rfl⟩ := stepIf_eq_next.mp e
  exact .received

theorem execIrqRecv_cases (e : execIrqRecv s = .next t) : HandlerStep s t := by
  obtain ⟨-, rfl⟩ := stepIf_eq_next.mp e
  exact .received

theorem execFrameAck_cases {dst src id flags : Byte} {b : Bytes} (e : execFrameAck dst src id flags b s = .next t) :
    HandlerStep s t := by
  obtain ⟨-, rfl⟩ := stepIf_eq_next.mp e
  split
  · exact .undecryptable
  · exact .consumed ..

theorem execFrameDataBcast_cases {src id flags : Byte} {b : Bytes}
    (e : execFrameDataBcast src id flags b s = .next t) : HandlerStep s t := by
  obtain ⟨-, rfl⟩ := stepIf_eq_next.mp e
  split
  · exact .undecryptable
  · exact .accepted ..

theorem execFrameDataUcast_cases {dst src id flags : Byte} {b : Bytes}
    (e : execFrameDataUcast dst src id flags b s = .next t) : HandlerStep s t := by
  obtain ⟨-, rfl⟩ := stepIf_eq_next.mp e
  split
  · exact .undecryptable
  · split
    · exact .acknowledge ..
    · exact .accepted ..

theorem execHFilter_cases (e : execHFilter s = .next t) : HandlerStep s t := by
  unfold execHFilter at e
  split at e
  · cases e
  split at e
  · cases e; exact .dropped _
  split at e
  · cases e; exact .dropped _
  split at e
  · cases e; exact .dropped _
  split at e
  · unfold dispatchFrame at e
    split at e
    · exact execFrameAck_cases e
    · exact execFrameDataBcast_cases e
    · exact execFrameDataUcast_cases e
  · cases e; exact .dropped _

theorem execHDeliver_cases (e : execHDeliver s = .next t) : HandlerStep s t := by
  obtain ⟨-, rfl⟩ := stepIf_eq_next.mp e
  split
  · exact .delivered
  · exact .undelivered

/-- A micro-step of `STEP.H` is one of the gate phase that `H.SEQ` names, or one of the handler's own phases. -/
theorem execStepH_cases (e : execStepH s = .next t) :
    HandlerStep s t ∨ ∃ p, s.h.seq = .gate p ∧ GateStep .h s p t := by
  cases hp : s.h.seq with
  | idle => simp only [execStepH, hp] at e; exact .inl (execHIdle_cases e)
  | flags => simp only [execStepH, hp] at e; exact .inl (execHFlags_cases e)
  | sent => simp only [execStepH, hp] at e; exact .inl (execHSent_cases e)
  | read => simp only [execStepH, hp] at e; exact .inl (execHRead_cases e)
  | filter => simp only [execStepH, hp] at e; exact .inl (execHFilter_cases e)
  | gate p => simp only [execStepH, hp] at e; exact .inr ⟨p, rfl, stepGate_cases e⟩
  | deliver => simp only [execStepH, hp] at e; exact .inl (execHDeliver_cases e)

/-! ### The host's commands and `STEP.X` -/

/-- The next states of a command and of the second micro-step of `CLOSE`; only the accepted `INIT` needs its name. -/
inductive HostStep (s : State) : Instr → State → Prop
  | answered (i : Instr) (op : Byte) (code : Status) (data : Bytes) : HostStep s i (respond op code data s)
  | encoded (i : Instr) (data : Bytes) : HostStep s i (respond opEncode .ok data (encodeDrawn s))
  | modeSet (i : Instr) (op : Byte) (m : Mode) : HostStep s i (respond op .ok [] (setMode m s))
  | sendStarted (i : Instr) {hd : Header} {p f : Bytes} (hidle : s.c.seq = .idle)
    (hf : encodeFrame hd p s = some f) : HostStep s i (startCaller .send f (encodeDrawn s))
  | sendwStarted (i : Instr) {dst flags : Byte} (retries : Byte) {p f : Bytes} (hidle : s.c.seq = .idle)
    (hf : encodeFrame (ownHeader s dst (nextId s.session.lastId) flags) p s = some f) :
    HostStep s i
      (startCaller .sendw f (makeRecord dst (nextId s.session.lastId) retries (useNextId (encodeDrawn s))))
  | waitStarted (i : Instr) (hidle : s.c.seq = .idle) :
    HostStep s i { s with c := { s.c with op := .waitsent, dl := s.now + s.session.wpsTimeout.toNat, seq := .sWait } }
  | callbackSet (i : Instr) (v : Bool) :
    HostStep s i (respond opSetcb .ok [] { s with session := { s.session with cbEn := v } })
  | closeBegun (i : Instr) :
    HostStep s i
      { s with
        session := { s.session with isOpen := false, closing := true }
        radio := { s.radio with irqPend := false } }
  | closeEnded (i : Instr) :
    HostStep s i
      (respond opClose .ok []
        { setMode .sleep s with session := { (setMode .sleep s).session with closing := false } })
  | opened {addr cfg : Byte} (power preset : Byte) (cad retry wps : Ticks) (hl : initIllegal addr cfg = false)
    (hb : initBusy s = false) :
    HostStep s (.init addr cfg power preset cad retry wps)
      (respond opInit .ok [] (openSession addr cfg power preset cad retry wps s))

/-- A command that may be refused: the two refusals are answers, so only its run is left to look at. -/
theorem hostStep_accept (i : Instr) (op : Byte) (q : Bool) {run : State}
    (hrun : (q = true → s.c.seq = .idle) → HostStep s i run) : HostStep s i (accept op q s run) := by
  obtain ⟨-, h⟩ | ⟨-, -, -, h⟩ | ⟨-, hidle, h⟩ := accept_cases op q s run <;> rw [h]
  · exact .answered ..
  · exact .answered ..
  · exact hrun hidle

theorem execSend_cases (i : Instr) {dst id flags : Byte} {p : Bytes} (e : execSend dst id flags p s = .next t) :
    HostStep s i t := by
  cases e
  refine hostStep_accept i _ _ fun hidle => ?_
  split
  · exact .answered ..
  next hf => exact .sendStarted i (hidle rfl) hf

theorem execSendw_cases (i : Instr) {dst flags retries : Byte} {p : Bytes}
    (e : execSendw dst flags retries p s = .next t) : HostStep s i t := by
  cases e
  refine hostStep_accept i _ _ fun hidle => ?_
  split
  · exact .answered ..
  next hf => exact .sendwStarted i retries (hidle rfl) hf

theorem modeCommand_cases (i : Instr) (op : Byte) (m : Mode) : HostStep s i (modeCommand op m s) :=
  hostStep_accept i _ _ fun _ => .modeSet i op m

theorem execWaitsent_cases (i : Instr) (e : execWaitsent s = .next t) : HostStep s i t := by
  cases e
  exact hostStep_accept i _ _ fun hidle => .waitStarted i (hidle rfl)

theorem execClose_cases (i : Instr) (e : execClose s = .next t) : HostStep s i t := by
  cases e
  exact hostStep_accept i _ _ fun _ => .closeBegun i

theorem execStepX_cases (i : Instr) (e : execStepX s = .next t) : HostStep s i t := by
  obtain ⟨-, rfl⟩ := stepIf_eq_next.mp e
  exact .closeEnded i

theorem execSetcb_cases (i : Instr) {en : Byte} (e : execSetcb en s = .next t) : HostStep s i t := by
  cases e
  split
  · exact .answered ..
  · exact hostStep_accept i _ _ fun _ => .callbackSet i _

theorem execInit_cases {addr cfg power preset : Byte} {cad retry wps : Ticks}
    (e : execInit addr cfg power preset cad retry wps s = .next t) :
    HostStep s (.init addr cfg power preset cad retry wps) t := by
  cases e
  split
  · exact .answered ..
  next hl =>
    split
    · exact .answered ..
    next hb => exact .opened power preset cad retry wps (Bool.eq_false_iff.mpr hl) (Bool.eq_false_iff.mpr hb)

theorem execEncode_cases (i : Instr) {dst src id flags : Byte} {p : Bytes}
    (e : execEncode dst src id flags p s = .next t) : HostStep s i t := by
  cases e
  refine hostStep_accept i _ _ fun _ => ?_
  split
  · exact .answered ..
  · exact .encoded ..

theorem execDecode_cases (i : Instr) {b : Bytes} (e : execDecode b s = .next t) : HostStep s i t := by
  cases e
  refine hostStep_accept i _ _ fun _ => ?_
  unfold respondDecoded
  split <;> exact .answered ..

/-! ### The environment (R244 to R247) -/

/-- The steps of the clock and the radio. -/
inductive EnvStep (s : State) : Instr → State → Prop
  | tick : EnvStep s .evTick { s with now := s.now + 1 }
  | txDone (h : txdoneEnabled s = true) :
    EnvStep s .evTxdone
      (raiseIrq { s.radio.irqf with txDone := true }
        { s with air := s.air ++ [s.radio.txBytes], radio := { s.radio with txInflight := false } })
  | rxDone (v : Bool) (rssi snr : Byte) {b : Bytes} (hb : b.length ≤ 255) (h : rxdoneEnabled s = true) :
    EnvStep s (.evRxdone v rssi snr b)
      (raiseIrq { s.radio.irqf with rxDone := true } { s with radio := deposit v rssi snr b s.radio })
  | cadDone (d : Bool) (h : caddoneEnabled s = true) :
    EnvStep s (.evCaddone d)
      (raiseIrq { s.radio.irqf with cadDone := true, cadDetected := d }
        { s with radio := { s.radio with cadInflight := false } })

theorem execEvRxdone_cases {v : Bool} {rssi snr : Byte} {b : Bytes} (e : execEvRxdone v rssi snr b s = .next t) :
    EnvStep s (.evRxdone v rssi snr b) t := by
  unfold execEvRxdone at e
  split at e
  · cases e
  next hb =>
    obtain ⟨h, rfl⟩ := stepIf_eq_next.mp e
    exact .rxDone v rssi snr (Nat.not_lt.mp hb) h

/-! ### All instructions -/

/-- The instruction runs a sequencer's `G_FIFO`: the row itself, or the step record of a sequencer that stands there. -/
def Stages (i : Instr) (s : State) : Prop :=
  (∃ a, i = .gFifo a) ∨ (i = .stepC ∧ s.c.seq = .gate .fifo) ∨ (i = .stepH ∧ s.h.seq = .gate .fifo)

/-- A micro-step of one agent, taken by instruction `i`. -/
inductive Move (i : Instr) (s t : State) : Prop
  | host (h : HostStep s i t)
  | env (h : EnvStep s i t)
  | caller (h : CallerStep s t)
  | handler (h : HandlerStep s t)
  | gate {a : Sequencer} {p : GatePhase} (hp : p = .fifo → Stages i s) (h : GateStep a s p t)

/-- Every next state of every instruction is a micro-step of one agent. -/
theorem exec_cases {i : Instr} (e : exec i s = .next t) : Move i s t := by
  cases i with
  -- commands
  | send => exact .host (execSend_cases _ e)
  | sendw => exact .host (execSendw_cases _ e)
  | modeIdle | modeRx | modeTx | sleep => cases e; exact .host (modeCommand_cases ..)
  | waitsent => exact .host (execWaitsent_cases _ e)
  | close => exact .host (execClose_cases _ e)
  | setcb => exact .host (execSetcb_cases _ e)
  | init => exact .host (execInit_cases e)
  | encode => exact .host (execEncode_cases _ e)
  | decode => exact .host (execDecode_cases _ e)
  | illegal => cases e; exact .host (.answered ..)
  | stepX => exact .host (execStepX_cases _ e)
  -- events
  | evTick => cases e; exact .env .tick
  | evTxdone => obtain ⟨h, rfl⟩ := stepIf_eq_next.mp e; exact .env (.txDone h)
  | evRxdone => exact .env (execEvRxdone_cases e)
  | evCaddone d => obtain ⟨h, rfl⟩ := stepIf_eq_next.mp e; exact .env (.cadDone d h)
  -- the caller sequencer
  | stepC =>
    obtain h | ⟨p, hp, hg⟩ := execStepC_cases e
    · exact .caller h
    · exact .gate (fun hf => .inr (.inl ⟨rfl, hf ▸ hp⟩)) hg
  | cAfterSend => exact .caller (execCAfterSend_cases e)
  | cAfterSendw => exact .caller (execCAfterSendw_cases e)
  | wWait => exact .caller (execWWait_cases e)
  | sWait => exact .caller (execSWait_cases e)
  -- the handler
  | stepH =>
    obtain h | ⟨p, hp, hg⟩ := execStepH_cases e
    · exact .handler h
    · exact .gate (fun hf => .inr (.inr ⟨rfl, hf ▸ hp⟩)) hg
  | hIdle => exact .handler (execHIdle_cases e)
  | hFlags => exact .handler (execHFlags_cases e)
  | hSent => exact .handler (execHSent_cases e)
  | hRead => exact .handler (execHRead_cases e)
  | hFilter => exact .handler (execHFilter_cases e)
  | hDeliver => exact .handler (execHDeliver_cases e)
  | irqSent => exact .handler (execIrqSent_cases e)
  | irqRecv => exact .handler (execIrqRecv_cases e)
  | frameAck => exact .handler (execFrameAck_cases e)
  | frameDataBcast => exact .handler (execFrameDataBcast_cases e)
  | frameDataUcast => exact .handler (execFrameDataUcast_cases e)
  -- the gate
  | irqCad => exact .gate (p := .poll) nofun (execIrqCad_cases e)
  | gStart => exact .gate (p := .start) nofun (stepGate_cases e)
  | gCad => exact .gate (p := .cad) nofun (stepGate_cases e)
  | gPoll => exact .gate (p := .poll) nofun (stepGate_cases e)
  | gBusy => exact .gate (p := .busy) nofun (stepGate_cases e)
  | gBackoff => exact .gate (p := .backoff) nofun (stepGate_cases e)
  | gFifo a => exact .gate (p := .fifo) (fun _ => .inl ⟨a, rfl⟩) (stepGate_cases e)
  | gTrig => exact .gate (p := .trig) nofun (stepGate_cases e)

end Steps

end Sys2Proof.Machine
end

section
/-! The invariant `Inv` (Safety.lean) under each operation, then under each agent's micro-steps. `{ h with … }` keeps the
clauses whose registers the operation does not write; only the clauses it touches are proved. -/

namespace Sys2Proof.Machine

open Sys2Proof

section Invariant

variable {s t : State}

/-! ### Consequences -/

/-- No send is outstanding and no wake-up stands outside a unicast `SENDW` in progress (R30, R187). -/
theorem Inv.no_outstanding (h : Inv s)
    (hout : s.c.op ≠ .sendw ∨ s.c.seq = .idle ∨ s.c.gate.frame.head? = some 255) :
    s.session.pendValid = false ∧ s.session.ackOk = false := by
  constructor
  · refine Bool.eq_false_iff.mpr fun hv => ?_
    obtain ⟨hop, hseq, huni, hhead, -⟩ := h.pending hv
    obtain hout | hout | hout := hout
    · exact hout hop
    · exact hseq hout
    · exact huni (Option.some.inj (hhead.symm.trans hout))
  · refine Bool.eq_false_iff.mpr fun ha => ?_
    obtain ⟨-, hop, hseq, hhead⟩ := h.wakeup ha
    obtain hout | hout | hout := hout
    · exact hout hop
    · exact hseq hout
    · exact hhead hout

/-- The register that `inGate` reads, per sequencer (R200). -/
theorem inGate_c_iff {p : GatePhase} : inGate .c p s = true ↔ s.c.seq = .gate p := decide_eq_true_iff

theorem inGate_h_iff {p : GatePhase} : inGate .h p s = true ↔ s.h.seq = .gate p := decide_eq_true_iff

/-! ### Operations that write no register of the invariant -/

theorem inv_access (a : PortAccess) (h : Inv s) : Inv (access a s) := { h with }

theorem inv_respond (op : Byte) (code : Status) (data : Bytes) (h : Inv s) : Inv (respond op code data s) := { h with }

theorem inv_drawn (h : Inv s) : Inv (drawn s) := { h with }

theorem inv_encodeDrawn (h : Inv s) : Inv (encodeDrawn s) := by
  rw [encodeDrawn_eq]
  exact { h with }

theorem inv_clearCadFlags (h : Inv s) : Inv (clearCadFlags s) := { h with }

theorem inv_faultCipherLength (h : Inv s) : Inv (faultCipherLength s) := { h with }

theorem inv_keepPacket (hd : Header) (m : Bytes) (h : Inv s) : Inv (keepPacket hd m s) := { h with }

theorem inv_takeScript (later : List Record) (h : Inv s) : Inv { s with script := later } := { h with }

/-! ### The radio -/

/-- `SetMode` keeps the invariant: it leaves in flight only what belongs to the new mode, and a trigger clears the
signal and latches at most 255 bytes (R141). -/
theorem inv_setMode (m : Mode) (h : Inv s) : Inv (setMode m s) := by
  have hsize : (setMode m s).radio.txBytes.length ≤ 255 := by
    obtain ⟨-, -, hkept | ⟨-, -, hstaged⟩ | ⟨-, -, hfree⟩⟩ := setMode_inflight m s
    · rw [hkept]; exact h.tx_size
    · rw [hstaged]; exact h.fifo_size
    · rw [hfree]; exact freeString_length _
  rw [setMode_eq]
  exact
    { h with
      tx_size := hsize
      tx_mode := fun hm => by simp [of_decide_eq_true hm]
      cad_mode := fun hm => of_decide_eq_true hm }

/-- `FifoWrite` of a frame that it is given for keeps the invariant (R64). -/
theorem inv_fifoWrite {b : Bytes} (hb : fifoWritable s.params b = true) (h : Inv s) : Inv (fifoWrite b s) := by
  obtain ⟨-, -, hkept, hspoilt, -⟩ := fifoWrite_spec b s
  have hsize : (fifoWrite b s).radio.txBytes.length ≤ 255 := by
    cases hfly : s.radio.txInflight with
    | false => rw [(hkept hfly).1]; exact h.tx_size
    | true => rw [(hspoilt hfly).1]; exact freeString_length _
  rw [fifoWrite_eq]
  exact
    { h with
      fifo_size := Nat.le_trans (of_decide_eq_true hb).2 s.params.fifoCap_le
      tx_size := hsize
      rx_length := nofun }

/-! ### Phases -/

/-- The handler's phases that carry no clause of the invariant. -/
theorem inv_setHPhase {p : HPhase} (hp : p = .idle ∨ p = .flags ∨ p = .deliver) (h : Inv s) : Inv (setHPhase p s) := by
  obtain rfl | rfl | rfl := hp <;>
  exact
    { h with
      handler_frame := nofun
      filter_length := nofun
      sent_flag := nofun
      read_flag := nofun }

theorem inv_leaveHandler (h : Inv s) : Inv (leaveHandler s) := inv_setHPhase (.inl rfl) h

/-- A command ends: no send is outstanding any more. -/
theorem inv_setCPhase_idle (hv : s.session.pendValid = false) (ha : s.session.ackOk = false) (h : Inv s) :
    Inv (setCPhase .idle s) :=
  { h with
    pending := fun hv' => nomatch hv.symm.trans hv'
    wakeup := fun ha' => nomatch ha.symm.trans ha'
    caller_frame := nofun
    caller_op := nofun
    ack_wait := nofun
    sent_wait := nofun }

/-- The caller goes on with the frame it has. -/
theorem inv_setCPhase_of_hasFrame {p : CPhase} (hnew : callerHasFrame p = true) (hold : callerHasFrame s.c.seq = true)
    (hwait : p = .wWait → s.c.op = .sendw ∧ s.c.gate.frame.head? ≠ some 255) (h : Inv s) : Inv (setCPhase p s) := by
  have hbusy : p ≠ .idle := fun he => by simp [he, callerHasFrame] at hnew
  exact
    { h with
      pending := fun hv => by
        obtain ⟨hop, -, hrecord⟩ := h.pending hv
        exact ⟨hop, hbusy, hrecord⟩
      wakeup := fun ha => by
        obtain ⟨hv, hop, -, huni⟩ := h.wakeup ha
        exact ⟨hv, hop, hbusy, huni⟩
      caller_frame := fun _ => h.caller_frame hold
      caller_op := fun _ => h.caller_op hold
      ack_wait := hwait
      sent_wait := fun (he : p = .sWait) => by simp [he, callerHasFrame] at hnew }

/-! ### The gate -/

/-- A gate's times are free: only its frame is spoken of. -/
theorem inv_setGateRegs (a : Sequencer) {g : GateRegs} (hf : g.frame = (gateRegs a s).frame) (h : Inv s) :
    Inv (setGateRegs a g s) := by
  obtain ⟨frame, t0, wdl, bdl⟩ := g
  subst hf
  cases a <;> exact { h with }

theorem inv_setGatePhase {a : Sequencer} {p : GatePhase} (q : GatePhase) (hg : inGate a p s = true) (h : Inv s) :
    Inv (setGatePhase a q s) := by
  cases a with
  | c =>
    have hold : callerHasFrame s.c.seq = true := by rw [inGate_c_iff.mp hg]; rfl
    exact inv_setCPhase_of_hasFrame rfl hold nofun h
  | h =>
    exact
      { h with
        handler_frame := fun _ _ => h.handler_frame p (inGate_h_iff.mp hg)
        filter_length := nofun
        sent_flag := nofun
        read_flag := nofun }

theorem inv_leaveGate {a : Sequencer} {p : GatePhase} (hg : inGate a p s = true) (h : Inv s) : Inv (leaveGate a s) := by
  cases a with
  | c =>
    have hold : callerHasFrame s.c.seq = true := by rw [inGate_c_iff.mp hg]; rfl
    exact inv_setCPhase_of_hasFrame rfl hold nofun h
  | h => exact inv_setHPhase (.inr (.inr rfl)) h

theorem GateStep.keeps_inv {a : Sequencer} {p : GatePhase} (e : GateStep a s p t) (h : Inv s) : Inv t := by
  cases e with
  | start hg => exact inv_setGatePhase _ (by simpa using hg) (inv_setGateRegs a rfl h)
  | detect hg =>
    exact inv_setGatePhase _ (by simpa using hg) (inv_setGateRegs a (by simp) (inv_setMode _ h))
  | report hg =>
    have hg' : inGate a .poll (clearCadFlags (access .readIrqf s)) = true := by cases a <;> exact hg
    exact inv_setGatePhase _ hg' (inv_clearCadFlags (inv_access _ h))
  | windowEnd hg =>
    have hg' : inGate a .poll (access .readIrqf s) = true := by cases a <;> exact hg
    exact inv_setGatePhase _ hg' (inv_access _ h)
  | boundReached hg => exact inv_setGatePhase _ hg h
  | backOff hg => exact inv_drawn (inv_setGatePhase _ (by simpa using hg) (inv_setGateRegs a rfl h))
  | retry hg => exact inv_setGatePhase _ hg h
  | stage hg hw => exact inv_setGatePhase _ (by simpa using hg) (inv_fifoWrite hw h)
  | trigger hg => exact inv_leaveGate (by simpa using hg) (inv_setMode _ h)

/-! ### The caller sequencer -/

/-- The wake-up is consumed: its record was cleared by the match (R185, R189). -/
theorem inv_ackArrived (ha : s.session.ackOk = true) (h : Inv s) : Inv (ackArrived s) := by
  have hcleared : Inv (setAckOk false s) := { h with wakeup := nofun }
  exact inv_setCPhase_idle (h.wakeup ha).1 rfl (inv_respond _ _ _ hcleared)

theorem inv_resend (hp : s.c.seq = .wWait) (h : Inv s) : Inv (resend s) := by
  have hcounted : Inv { s with session := { s.session with pendLeft := s.session.pendLeft - 1 } } := { h with }
  have hold : callerHasFrame s.c.seq = true := by rw [hp]; rfl
  exact inv_setCPhase_of_hasFrame rfl hold nofun hcounted

theorem inv_giveUp (ha : s.session.ackOk = false) (h : Inv s) : Inv (giveUp s) := by
  have hcleared : Inv { s with session := { s.session with pendValid := false } } :=
    { h with
      pending := nofun
      wakeup := fun ha' => nomatch ha.symm.trans ha' }
  exact inv_setCPhase_idle rfl ha (inv_respond _ _ _ hcleared)

/-- A command that is not a unicast `SENDW` answers and ends. -/
theorem inv_answer_idle (op : Byte) (code : Status)
    (hout : s.c.op ≠ .sendw ∨ s.c.seq = .idle ∨ s.c.gate.frame.head? = some 255) (h : Inv s) :
    Inv (setCPhase .idle (respond op code [] s)) := by
  obtain ⟨hv, ha⟩ := h.no_outstanding hout
  exact inv_setCPhase_idle hv ha (inv_respond _ _ _ h)

theorem CallerStep.keeps_inv (e : CallerStep s t) (h : Inv s) : Inv t := by
  cases e with
  | sent hp ho => exact inv_answer_idle _ _ (.inl (by simp [ho])) h
  | broadcastSent hp ho hb => exact inv_answer_idle _ _ (.inr (.inr hb)) h
  | awaitAck hp ho hb =>
    have hdl : Inv { s with session := { s.session with pendDeadline := s.now + s.session.retryTimeout.toNat } } :=
      { h with }
    have hold : callerHasFrame s.c.seq = true := by rw [hp]; rfl
    exact inv_setCPhase_of_hasFrame rfl hold (fun _ => ⟨ho, hb⟩) hdl
  | acked hp ha => exact inv_ackArrived ha h
  | resent hp => exact inv_resend hp h
  | gaveUp hp ha => exact inv_giveUp ha h
  | signalled hp | timedOut hp => exact inv_answer_idle _ _ (.inl (by simp [h.sent_wait hp])) h

/-! ### The handler -/

theorem armOf_eq_sent {f : IrqFlags} (h : armOf f = .sent) : f.txDone = true := by
  unfold armOf at h
  split at h
  · assumption
  · split at h <;> cases h

theorem armOf_eq_read {f : IrqFlags} (h : armOf f = .read) : f.rxDone = true := by
  unfold armOf at h
  split at h
  · cases h
  · split at h
    · assumption
    · cases h

/-- The snapshot chooses an arm whose flag stands (R161). -/
theorem inv_snapshot (h : Inv s) :
    Inv
      { s with
        h := { s.h with txf := s.radio.irqf.txDone, rxf := s.radio.irqf.rxDone, seq := armOf s.radio.irqf } } := by
  have harm : armOf s.radio.irqf = .sent ∨ armOf s.radio.irqf = .read ∨ armOf s.radio.irqf = .idle := by
    unfold armOf
    split
    · exact .inl rfl
    · split <;> simp
  exact
    { h with
      handler_frame := fun p (hp : armOf s.radio.irqf = .gate p) => by simp [hp] at harm
      filter_length := fun (hp : armOf s.radio.irqf = .filter) => by simp [hp] at harm
      sent_flag := fun hp => ⟨armOf_eq_sent hp, id⟩
      read_flag := armOf_eq_read }

/-- The packet-sent arm goes on to the packet-received arm only when its flag stands, which it does not clear (R163). -/
theorem inv_servePacketSent (hp : s.h.seq = .sent) (h : Inv s) : Inv (servePacketSent s) := by
  have hnext : ∀ q : HPhase, (if s.h.rxf then HPhase.read else .idle) = q → q = .read ∧ s.h.rxf = true ∨ q = .idle := by
    rintro q rfl
    cases s.h.rxf <;> simp
  exact
    { h with
      tx_mode := fun hm => by simp [servePacketSent, setMode_inflight] at hm
      cad_mode := fun hm => by simp [servePacketSent, setMode_inflight] at hm
      handler_frame := fun p hq => by simpa using hnext _ hq
      filter_length := fun hq => by simpa using hnext _ hq
      sent_flag := fun hq => by simpa using hnext _ hq
      read_flag := fun hq => (h.sent_flag hp).2 (by simpa using hnext _ hq) }

/-- The filter gets as many bytes as the length register says (R164). -/
theorem inv_servePacketReceived (h : Inv s) : Inv (servePacketReceived s) := by
  rw [servePacketReceived_eq]
  exact
    { h with
      handler_frame := nofun
      filter_length := fun _ => fifoReadBytes_length _ _
      sent_flag := nofun
      read_flag := nofun }

/-- A match hands the record over to the wake-up (R189). -/
theorem inv_ackMatch (src id : Byte) (h : Inv s) : Inv (ackMatch src id s) := by
  unfold ackMatch
  split
  next hm =>
    simp only [ackMatches, Bool.and_eq_true] at hm
    obtain ⟨⟨hv, -⟩, -⟩ := hm
    obtain ⟨hop, hseq, huni, hhead, -⟩ := h.pending hv
    exact
      { h with
        pending := nofun
        wakeup := fun _ => ⟨rfl, hop, hseq, by simpa [hhead] using huni⟩ }
  · exact h

/-- The ACK frame is four bytes, which every `FIFO_CAP` allows (R191). -/
theorem inv_startAutoAck (hd : Header) (h : Inv s) : Inv (startAutoAck hd s) := by
  rw [startAutoAck_eq]
  exact
    { h with
      handler_frame := fun _ _ => ⟨Nat.le_refl 4, s.params.le_fifoCap⟩
      filter_length := nofun
      sent_flag := nofun
      read_flag := nofun }

theorem HandlerStep.keeps_inv (e : HandlerStep s t) (h : Inv s) : Inv t := by
  cases e with
  | enter =>
    have hoff : Inv { s with radio := { s.radio with irqPend := false } } := { h with latch_open := nofun }
    exact inv_setHPhase (.inr (.inl rfl)) hoff
  | snapshot => exact inv_access _ (inv_snapshot h)
  | served hp => exact inv_servePacketSent hp h
  | received => exact inv_servePacketReceived h
  | dropped r => exact inv_leaveHandler h
  | undecryptable => exact inv_leaveHandler (inv_faultCipherLength h)
  | consumed hd m src id => exact inv_leaveHandler (inv_ackMatch src id (inv_keepPacket hd m h))
  | accepted hd m => exact inv_setHPhase (.inr (.inr rfl)) (inv_keepPacket hd m h)
  | acknowledge hd m => exact inv_startAutoAck hd (inv_keepPacket hd m h)
  | delivered =>
    have hrecord : Inv { s with deliv := s.deliv ++ [deliveryRecord s] } := { h with }
    exact inv_leaveHandler hrecord
  | undelivered => exact inv_leaveHandler h

/-! ### The host's commands -/

/-- An idle caller takes a frame of `Encode` as a `SEND`. -/
theorem inv_startCaller_send {f : Bytes} (hidle : s.c.seq = .idle) (hf : frameSized s.params f) (h : Inv s) :
    Inv (startCaller .send f s) := by
  obtain ⟨hv, ha⟩ := h.no_outstanding (.inr (.inl hidle))
  exact
    { h with
      pending := fun hv' => nomatch hv.symm.trans hv'
      wakeup := fun ha' => nomatch ha.symm.trans ha'
      caller_frame := fun _ => hf
      caller_op := nofun
      ack_wait := nofun
      sent_wait := nofun }

/-- An idle caller takes a frame of `Encode` as a `SENDW`; the record, if there is one, is the frame's (R183, R187). -/
theorem inv_startCaller_sendw {dst id : Byte} (retries : Byte) {f : Bytes} (hidle : s.c.seq = .idle)
    (hf : f.head? = some dst ∧ f[2]? = some id ∧ frameSized s.params f) (h : Inv s) :
    Inv (startCaller .sendw f (makeRecord dst id retries (useNextId s))) := by
  obtain ⟨hdst, hid, hsize⟩ := hf
  obtain ⟨hv, -⟩ := h.no_outstanding (.inr (.inl hidle))
  unfold makeRecord
  split
  · exact
      { h with
        pending := fun hv' => nomatch hv.symm.trans hv'
        wakeup := nofun
        caller_frame := fun _ => hsize
        caller_op := nofun
        ack_wait := nofun
        sent_wait := nofun }
  next huni =>
    exact
      { h with
        pending := fun _ => ⟨rfl, nofun, huni, hdst, hid⟩
        wakeup := nofun
        caller_frame := fun _ => hsize
        caller_op := nofun
        ack_wait := nofun
        sent_wait := nofun }

/-- An idle caller waits for the signal (R227). -/
theorem inv_waitStarted (dl : Nat) (hidle : s.c.seq = .idle) (h : Inv s) :
    Inv { s with c := { s.c with op := .waitsent, dl := dl, seq := .sWait } } := by
  obtain ⟨hv, ha⟩ := h.no_outstanding (.inr (.inl hidle))
  exact
    { h with
      pending := fun hv' => nomatch hv.symm.trans hv'
      wakeup := fun ha' => nomatch ha.symm.trans ha'
      caller_frame := nofun
      caller_op := nofun
      ack_wait := nofun
      sent_wait := fun _ => rfl }

theorem initIllegal_eq_false {addr cfg : Byte} (h : initIllegal addr cfg = false) :
    addr ≠ 255 ∧ (cfgCipher cfg = true → Config.cipherPresent = true) := by
  simp only [initIllegal, Bool.or_eq_false_iff, decide_eq_false_iff_not] at h
  obtain ⟨⟨haddr, -⟩, hcipher⟩ := h
  exact ⟨haddr, fun hc => by simpa [hc] using hcipher⟩

theorem initBusy_eq_false (h : initBusy s = false) : s.c.seq = .idle ∧ s.h.seq = .idle := by
  simp only [initBusy, Bool.or_eq_false_iff, decide_eq_false_iff_not, not_not] at h
  obtain ⟨⟨-, hc⟩, hh⟩ := h
  exact ⟨hc, hh⟩

/-- An accepted `INIT` opens a session with legal operands on an idle block (R45, R220). -/
theorem inv_openSession {addr cfg : Byte} (power preset : Byte) (cad retry wps : Ticks)
    (hl : initIllegal addr cfg = false) (hb : initBusy s = false) (h : Inv s) :
    Inv (openSession addr cfg power preset cad retry wps s) := by
  obtain ⟨haddr, hcipher⟩ := initIllegal_eq_false hl
  obtain ⟨-, hidle⟩ := initBusy_eq_false hb
  refine inv_setMode .idle ?_
  exact
    { h with
      fifo_size := Nat.zero_le _
      tx_size := freeString_length _
      rx_length := nofun
      tx_mode := nofun
      cad_mode := nofun
      latch_open := nofun
      closing_shut := nofun
      address := fun _ => haddr
      cipher_given := fun _ => hcipher
      pending := nofun
      wakeup := nofun
      sent_flag := fun hp => nomatch hidle.symm.trans hp
      read_flag := fun hp => nomatch hidle.symm.trans hp }

theorem HostStep.keeps_inv {i : Instr} (e : HostStep s i t) (h : Inv s) : Inv t := by
  cases e with
  | answered _ op code data => exact inv_respond op code data h
  | encoded _ data => exact inv_respond _ _ _ (inv_encodeDrawn h)
  | modeSet _ op m => exact inv_respond _ _ _ (inv_setMode m h)
  | sendStarted _ hidle hf =>
    obtain ⟨-, -, hsize⟩ := encodeFrame_some hf
    exact inv_startCaller_send (by simpa using hidle) (by simpa using hsize) (inv_encodeDrawn h)
  | sendwStarted _ retries hidle hf =>
    exact inv_startCaller_sendw retries (by simpa using hidle) (by simpa [ownHeader] using encodeFrame_some hf)
      (inv_encodeDrawn h)
  | waitStarted _ hidle => exact inv_waitStarted _ hidle h
  | callbackSet _ v =>
    have hset : Inv { s with session := { s.session with cbEn := v } } := { h with }
    exact inv_respond _ _ _ hset
  | closeBegun =>
    exact
      { h with
        latch_open := nofun
        closing_shut := fun _ => rfl
        address := nofun
        cipher_given := nofun }
  | closeEnded =>
    have hshut : Inv { setMode .sleep s with session := { (setMode .sleep s).session with closing := false } } :=
      { inv_setMode .sleep h with closing_shut := nofun }
    exact inv_respond _ _ _ hshut
  | opened power preset cad retry wps hl hb => exact inv_respond _ _ _ (inv_openSession _ _ _ _ _ hl hb h)

/-! ### The environment -/

/-- The received-bytes register can hold every count up to 255 (R34). -/
theorem countByte_toNat {n : Nat} (h : n ≤ 255) : (countByte n).toNat = n :=
  Nat.mod_eq_of_lt (Nat.lt_succ_of_le h)

theorem EnvStep.keeps_inv {i : Instr} (e : EnvStep s i t) (h : Inv s) : Inv t := by
  cases e with
  | tick => exact { h with }
  | txDone hen =>
    simp only [txdoneEnabled, Bool.and_eq_true] at hen
    obtain ⟨⟨hopen, -⟩, -⟩ := hen
    exact
      { h with
        tx_mode := nofun
        latch_open := fun _ => hopen
        sent_flag := fun hp => ⟨rfl, (h.sent_flag hp).2⟩ }
  | rxDone v rssi snr hb hen =>
    simp only [rxdoneEnabled, Bool.and_eq_true] at hen
    obtain ⟨hopen, -⟩ := hen
    exact
      { h with
        fifo_size := hb
        rx_length := fun _ => (countByte_toNat hb).symm
        latch_open := fun _ => hopen
        sent_flag := fun hp => ⟨(h.sent_flag hp).1, fun _ => rfl⟩
        read_flag := fun _ => rfl }
  | cadDone d hen =>
    simp only [caddoneEnabled, Bool.and_eq_true] at hen
    obtain ⟨⟨hopen, -⟩, -⟩ := hen
    exact
      { h with
        cad_mode := nofun
        latch_open := fun _ => hopen }

/-! ### Every instruction -/

/-- Every instruction, not only those a record names, keeps the invariant. -/
theorem exec_keeps_inv {i : Instr} (h : Inv s) (e : exec i s = .next t) : Inv t := by
  cases exec_cases e with
  | host e => exact e.keeps_inv h
  | env e => exact e.keeps_inv h
  | caller e => exact e.keeps_inv h
  | handler e => exact e.keeps_inv h
  | gate _ e => exact e.keeps_inv h

end Invariant

/-- Settles O52: a step takes a record off the script, which the invariant does not speak of, and runs the instruction
it names. -/
theorem everyStepKeepsInv : Obligations.EveryStepKeepsInv := by
  intro s t h e
  unfold step at e
  cases hf : fetch s with
  | error r => simp [hf] at e
  | ok q =>
    obtain ⟨r, later, -, -, htaken⟩ := fetch_eq_ok.mp hf
    simp only [hf] at e
    exact exec_keeps_inv (htaken ▸ inv_takeScript later h) e

/-- Settles O51: at reset nothing is open, latched, in flight or in progress, and the FIFO is empty. -/
theorem resetSatisfiesInv : Obligations.ResetSatisfiesInv := by
  intro script par
  constructor <;> simp [State.reset, Session.reset, Radio.reset, callerHasFrame]

/-- Settles O50: the values of `State.reset`. -/
theorem resetIsClosedAndIdle : Obligations.ResetIsClosedAndIdle := by
  refine ⟨?closed, ?notClosing, ?noFault, ?callerIdle, ?handlerIdle, ?noEdge, ?noResp, ?noDeliv, ?noAir⟩ <;> rfl

end Sys2Proof.Machine
end

section
/-! What the agents leave unchanged: the traces, the time base and the fault bit, the FIFO, and the registers of the
other context. -/

namespace Sys2Proof.Machine

open Sys2Proof

section Frames

variable {s t : State}

/-! ### Traces, time and the fault bit (R29, R41, R42, R97) -/

/-- A gate writes no output trace. -/
theorem GateStep.traces {a : Sequencer} {p : GatePhase} (e : GateStep a s p t) :
    t.resp = s.resp ∧ t.deliv = s.deliv ∧ t.air = s.air ∧ t.now = s.now ∧
    t.session.faultCipherLength = s.session.faultCipherLength ∧ t.params = s.params := by
  cases e <;> simp [takeReport]

/-- The caller sequencer writes a response at most. -/
theorem CallerStep.traces (e : CallerStep s t) :
    (t.resp = s.resp ∨ ∃ r, t.resp = s.resp ++ [r]) ∧ t.deliv = s.deliv ∧ t.air = s.air ∧ t.now = s.now ∧
    t.session.faultCipherLength = s.session.faultCipherLength ∧ t.params = s.params := by
  cases e <;> simp [ackArrived, resend, giveUp]

/-- The handler writes a delivery record at most, and may set the fault bit. -/
theorem HandlerStep.traces (e : HandlerStep s t) :
    t.resp = s.resp ∧ (t.deliv = s.deliv ∨ ∃ r, t.deliv = s.deliv ++ [r]) ∧ t.air = s.air ∧ t.now = s.now ∧
    (s.session.faultCipherLength = true → t.session.faultCipherLength = true) ∧ t.params = s.params := by
  cases e with
  | received => rw [servePacketReceived_eq]; simp
  | served => simp [servePacketSent]
  | undecryptable => simp [cipherLengthDrop]
  | consumed => simp [ackMatch_eq]
  | acknowledge => simp [startAutoAck_eq]
  | enter | snapshot | dropped | accepted | delivered | undelivered => simp

/-- A command writes a response at most; `INIT` keeps the fault bit (R272). -/
theorem HostStep.traces {i : Instr} (e : HostStep s i t) :
    (t.resp = s.resp ∨ ∃ r, t.resp = s.resp ++ [r]) ∧ t.deliv = s.deliv ∧ t.air = s.air ∧ t.now = s.now ∧
    t.session.faultCipherLength = s.session.faultCipherLength ∧ t.params = s.params := by
  cases e <;> simp [openSession, initSession]

/-- The radio writes the transmission's bytes at its end, the clock one tick. -/
theorem EnvStep.traces {i : Instr} (e : EnvStep s i t) :
    t.resp = s.resp ∧ t.deliv = s.deliv ∧ (t.air = s.air ∨ i = .evTxdone ∧ t.air = s.air ++ [s.radio.txBytes]) ∧
    (t.now = s.now ∨ i = .evTick ∧ t.now = s.now + 1) ∧
    t.session.faultCipherLength = s.session.faultCipherLength ∧ t.params = s.params := by
  cases e <;> simp

/-! ### The FIFO (R36, R64) -/

theorem GateStep.fifo_eq {a : Sequencer} {p : GatePhase} (hp : p ≠ .fifo) (e : GateStep a s p t) :
    t.radio.fifo = s.radio.fifo := by
  cases e with
  | stage => exact absurd rfl hp
  | report => simp [takeReport]
  | start | detect | windowEnd | boundReached | backOff | retry | trigger => simp

theorem CallerStep.radio_eq (e : CallerStep s t) : t.radio = s.radio := by
  cases e <;> rfl

theorem HandlerStep.fifo_eq (e : HandlerStep s t) : t.radio.fifo = s.radio.fifo := by
  cases e with
  | received => rw [servePacketReceived_eq]
  | served => simp [servePacketSent]
  | undecryptable => simp [cipherLengthDrop]
  | consumed => simp [ackMatch_eq]
  | acknowledge => simp [startAutoAck_eq]
  | enter | snapshot | dropped | accepted | delivered | undelivered => simp

theorem HostStep.fifo_eq {i : Instr} (hi : ∀ a b c d e f g, i ≠ .init a b c d e f g) (e : HostStep s i t) :
    t.radio.fifo = s.radio.fifo := by
  cases e with
  | opened => exact (hi _ _ _ _ _ _ _ rfl).elim
  | _ => simp

theorem EnvStep.fifo_eq {i : Instr} (hi : ∀ v rssi snr b, i ≠ .evRxdone v rssi snr b) (e : EnvStep s i t) :
    t.radio.fifo = s.radio.fifo := by
  cases e with
  | rxDone => exact (hi _ _ _ _ rfl).elim
  | tick | txDone | cadDone => rfl

/-! ### The two contexts (R46, R253) -/

/-- The caller's gate touches no handler register, no dispatched flag and raises no signal. -/
theorem GateStep.caller_context {p : GatePhase} (e : GateStep .c s p t) :
    t.h = s.h ∧ t.radio.irqf.txDone = s.radio.irqf.txDone ∧ t.radio.irqf.rxDone = s.radio.irqf.rxDone ∧
    (t.session.txDone = true → s.session.txDone = true) ∧ t.session.ackOk = s.session.ackOk := by
  cases e <;> simp +contextual [takeReport]

theorem CallerStep.caller_context (e : CallerStep s t) :
    t.h = s.h ∧ t.radio = s.radio ∧ t.session.txDone = s.session.txDone ∧
    (t.session.ackOk = true → s.session.ackOk = true) := by
  cases e <;> simp [ackArrived, resend, giveUp]

/-- The handler's gate writes the mode and the packet-sent signal only, of the session's registers. -/
theorem GateStep.handler_context {p : GatePhase} (e : GateStep .h s p t) :
    t.c = s.c ∧ t.session = { s.session with mode := t.session.mode, txDone := t.session.txDone } := by
  cases e <;> simp [takeReport]

theorem HandlerStep.handler_context (e : HandlerStep s t) :
    t.c = s.c ∧ t.session.lastId = s.session.lastId ∧ t.session.cbEn = s.session.cbEn ∧
    t.session.isOpen = s.session.isOpen ∧ (s.session.ackOk = true → t.session.ackOk = true) ∧
    (t.session.pendValid = true → s.session.pendValid = true) := by
  cases e with
  | received => rw [servePacketReceived_eq]; simp
  | served => simp [servePacketSent]
  | undecryptable => simp [cipherLengthDrop]
  | consumed => simp +contextual [ackMatch_eq]
  | acknowledge => simp [startAutoAck_eq]
  | enter | snapshot | dropped | accepted | delivered | undelivered => simp

end Frames

/-- Settles O59: each agent writes its own trace. -/
theorem tracesGrowAndFaultsStick : Obligations.TracesGrowAndFaultsStick := by
  intro i s t e
  cases exec_cases e with
  | host e =>
    obtain ⟨hresp, hdeliv, hair, hnow, hfault, hpar⟩ := e.traces
    exact ⟨hresp, .inl hdeliv, .inl hair, .inl hnow, fun h => hfault.trans h, hpar⟩
  | env e =>
    obtain ⟨hresp, hdeliv, hair, hnow, hfault, hpar⟩ := e.traces
    exact ⟨.inl hresp, .inl hdeliv, hair, hnow, fun h => hfault.trans h, hpar⟩
  | caller e =>
    obtain ⟨hresp, hdeliv, hair, hnow, hfault, hpar⟩ := e.traces
    exact ⟨hresp, .inl hdeliv, .inl hair, .inl hnow, fun h => hfault.trans h, hpar⟩
  | handler e =>
    obtain ⟨hresp, hdeliv, hair, hnow, hfault, hpar⟩ := e.traces
    exact ⟨.inl hresp, hdeliv, .inl hair, .inl hnow, hfault, hpar⟩
  | gate _ e =>
    obtain ⟨hresp, hdeliv, hair, hnow, hfault, hpar⟩ := e.traces
    exact ⟨.inl hresp, .inl hdeliv, .inl hair, .inl hnow, fun h => hfault.trans h, hpar⟩

/-- Settles O60: of the agents' micro-steps only `stage`, `rxDone` and `opened` write the FIFO, and the hypotheses
exclude the instructions that take them. -/
theorem onlyStagingAndDepositWriteTheFifo : Obligations.OnlyStagingAndDepositWriteTheFifo := by
  intro i s t e hgate hrx hinit hc hh
  have hstage : ¬ Stages i s := by
    rintro (⟨a, ha⟩ | ⟨hi, hp⟩ | ⟨hi, hp⟩)
    · exact hgate a ha
    · exact hc hi hp
    · exact hh hi hp
  have hfifo : t.radio.fifo = s.radio.fifo := by
    cases exec_cases e with
    | host e => exact e.fifo_eq hinit
    | env e => exact e.fifo_eq hrx
    | caller e => rw [e.radio_eq]
    | handler e => exact e.fifo_eq
    | gate hp e => exact e.fifo_eq fun h => hstage (hp h)
  intro a
  rw [fifoByte, hfifo, fifoByte]

/-- Settles O58: `STEP.C` is a micro-step of the caller or of its gate, `STEP.H` one of the handler or of its gate. -/
theorem contextsKeepToTheirOwn : Obligations.ContextsKeepToTheirOwn := by
  intro s t
  constructor
  · intro e
    obtain e | ⟨p, -, e⟩ := execStepC_cases e
    · obtain ⟨hh, hradio, htx, hack⟩ := e.caller_context
      obtain ⟨-, hdeliv, -⟩ := e.traces
      exact ⟨hh, hdeliv, by rw [hradio], by rw [hradio], fun h => htx ▸ h, hack⟩
    · obtain ⟨hh, htxf, hrxf, htx, hack⟩ := e.caller_context
      obtain ⟨-, hdeliv, -⟩ := e.traces
      exact ⟨hh, hdeliv, htxf, hrxf, htx, fun h => hack ▸ h⟩
  · intro e
    obtain e | ⟨p, -, e⟩ := execStepH_cases e
    · obtain ⟨hc, hid, hcb, hopen, hack, hpend⟩ := e.handler_context
      obtain ⟨hresp, -⟩ := e.traces
      exact ⟨hc, hresp, hid, hcb, hopen, hack, hpend⟩
    · obtain ⟨hc, hsession⟩ := e.handler_context
      obtain ⟨hresp, -⟩ := e.traces
      rw [hsession]
      exact ⟨hc, hresp, rfl, rfl, rfl, id, id⟩

end Sys2Proof.Machine
end

section
/-! What is enabled: each phase of a sequencer has a micro-step once the phase is due. A waiting phase is due at its own
deadline, every other phase but the idle one at once; `callerDue` and `handlerDue` say so, and `exec_stepC_enabled` and
`exec_stepH_enabled` tie them to the step records. -/

namespace Sys2Proof.Machine

open Sys2Proof

section Progress

variable {s : State} {a : Sequencer}

/-! ### Enabling conditions that are true -/

theorem stepIf_of_true {b : Bool} {r : Refusal} {n : State} (h : b = true) : stepIf b r n = .next n :=
  stepIf_eq_next.mpr ⟨h, rfl⟩

theorem stepIf_decide_of {q : Prop} [Decidable q] {r : Refusal} {n : State} (h : q) :
    stepIf (decide q) r n = .next n :=
  stepIf_of_true (decide_eq_true h)

theorem expired_of_le {now deadline : Nat} (h : deadline ≤ now) : expired now deadline = true := decide_eq_true h

theorem fifoWritable_of_frameSized {par : Params} {b : Bytes} (h : frameSized par b) : fifoWritable par b = true :=
  decide_eq_true h

/-! ### A record that decodes (R96, R100) -/

theorem step_of_decoded {r : Record} {later : List Record} {i : Instr} (hs : s.script = r :: later)
    (hd : decode s.params (.record r) = some i) : step s = exec i { s with script := later } := by
  have hf : fetch s = .ok (i, { s with script := later }) := fetch_eq_ok.mpr ⟨r, later, hs, hd, rfl⟩
  simp [step, hf]

/-! ### The step records run the row their phase register selects (R100, R112) -/

theorem exec_stepC_of_select {i : Instr} (h : selectC s.c.seq s.c.op = some i) : exec .stepC s = exec i s := by
  change execStepC s = _
  unfold execStepC
  cases hp : s.c.seq with
  | idle => simp [selectC, hp] at h
  | gate p => simp only [selectC, hp, Option.some.injEq] at h; rw [← h, exec_gateInstr]
  | after =>
    cases ho : s.c.op with
    | send | sendw => simp only [selectC, hp, ho, Option.some.injEq] at h; rw [← h]; rfl
    | waitsent => simp [selectC, hp, ho] at h
  | wWait | sWait => simp only [selectC, hp, Option.some.injEq] at h; rw [← h]; rfl

theorem exec_stepH_eq_select (s : State) : exec .stepH s = exec (selectH s.h.seq) s := by
  change execStepH s = _
  unfold execStepH
  cases s.h.seq with
  | gate p => exact (exec_gateInstr .h p s).symm
  | idle | flags | sent | read | filter | deliver => rfl

/-! ### The gate (R200 to R208) -/

/-- A gate phase is due: the two that wait at `WDL` and `BDL` (R203, R205), the others at once. -/
def gateDue (a : Sequencer) (s : State) : GatePhase → Prop
  | .poll => (gateRegs a s).wdl ≤ s.now
  | .backoff => (gateRegs a s).bdl ≤ s.now
  | .start | .cad | .busy | .fifo | .trig => True

theorem gateDue_of_not_waiting {p : GatePhase} (hpoll : p ≠ .poll) (hback : p ≠ .backoff) : gateDue a s p := by
  cases p with
  | poll => exact absurd rfl hpoll
  | backoff => exact absurd rfl hback
  | start | cad | busy | fifo | trig => trivial

/-- A gate phase that is due has a micro-step: the deadline ends a wait, and a frame of a size that can be written keeps
`G_FIFO` from its fault. -/
theorem stepGate_enabled {p : GatePhase} (hg : inGate a p s = true) (hf : frameSized s.params (gateRegs a s).frame)
    (hd : gateDue a s p) : ∃ t, stepGate a p s = .next t := by
  cases p with
  | start | cad | busy | trig => exact ⟨_, stepIf_of_true hg⟩
  | poll =>
    cases hr : s.radio.irqf.cadDone with
    | true => exact ⟨takeReport a s, by simp [stepGate, execGPoll, hg, hr]⟩
    | false =>
      exact ⟨setGatePhase a .fifo (access .readIrqf s), by
        simp [stepGate, execGPoll, hg, hr, stepIf_of_true (expired_of_le hd)]⟩
  | backoff =>
    exact ⟨setGatePhase a .cad s, by simp [stepGate, execGBackoff, hg, stepIf_of_true (expired_of_le hd)]⟩
  | fifo =>
    exact ⟨setGatePhase a .trig (fifoWrite (gateRegs a s).frame s), by
      simp [stepGate, execGFifo, hg, fifoWritable_of_frameSized hf]⟩

/-! ### The caller sequencer (R181, R184, R185, R227) -/

/-- A phase of the caller sequencer is due: the waits at their deadlines, `C_IDLE` never, the others at once. -/
def callerDue (s : State) : CPhase → Prop
  | .idle => False
  | .gate p => gateDue .c s p
  | .after => True
  | .wWait => s.session.pendDeadline ≤ s.now
  | .sWait => s.c.dl ≤ s.now

theorem exec_wWait_enabled (hp : s.c.seq = .wWait) (hd : s.session.pendDeadline ≤ s.now) :
    ∃ t, exec .wWait s = .next t := by
  cases ha : s.session.ackOk with
  | true => exact ⟨ackArrived s, by simp [exec, execWWait, hp, ha]⟩
  | false => simp [exec, execWWait, hp, ha, stepIf_of_true (expired_of_le hd)]

theorem exec_sWait_enabled (hp : s.c.seq = .sWait) (hd : s.c.dl ≤ s.now) : ∃ t, exec .sWait s = .next t := by
  cases ht : s.session.txDone with
  | true => exact ⟨setCPhase .idle (respond opWaitsent .ok [] s), by simp [exec, execSWait, hp, ht]⟩
  | false =>
    exact ⟨setCPhase .idle (respond opWaitsent .transmitTimeout [] s), by
      simp [exec, execSWait, hp, ht, stepIf_of_true (expired_of_le hd)]⟩

/-- The invariant gives the gate a frame that can be written and keeps `WAITSENT` out of `C_AFTER`. -/
theorem exec_stepC_enabled {q : CPhase} (h : Inv s) (hp : s.c.seq = q) (hd : callerDue s q) :
    ∃ t, exec .stepC s = .next t := by
  cases q with
  | idle => exact hd.elim
  | gate p =>
    rw [exec_stepC_of_select (i := gateInstr .c p) (by rw [hp]; rfl), exec_gateInstr]
    exact stepGate_enabled (decide_eq_true hp) (h.caller_frame (by rw [hp]; rfl)) hd
  | after =>
    cases ho : s.c.op with
    | send =>
      rw [exec_stepC_of_select (i := .cAfterSend) (by rw [hp, ho]; rfl)]
      exact ⟨_, stepIf_decide_of ⟨hp, ho⟩⟩
    | sendw =>
      rw [exec_stepC_of_select (i := .cAfterSendw) (by rw [hp, ho]; rfl)]
      exact ⟨_, stepIf_decide_of ⟨hp, ho⟩⟩
    | waitsent => exact absurd ho (h.caller_op (by rw [hp]; rfl))
  | wWait =>
    rw [exec_stepC_of_select (i := .wWait) (by rw [hp]; rfl)]
    exact exec_wWait_enabled hp hd
  | sWait =>
    rw [exec_stepC_of_select (i := .sWait) (by rw [hp]; rfl)]
    exact exec_sWait_enabled hp hd

/-! ### The handler (R160 to R168) -/

/-- A phase of the handler is due: its gate's waits at their deadlines, `H_IDLE` never by time alone, the others at
once. -/
def handlerDue (s : State) : HPhase → Prop
  | .idle => False
  | .gate p => gateDue .h s p
  | .flags | .sent | .read | .filter | .deliver => True

/-- A frame that passed the filter is taken, whatever its class. -/
theorem dispatchFrame_enabled (hd : Header) (b : Bytes) (hp : s.h.seq = .filter) :
    ∃ t, dispatchFrame hd b s = .next t := by
  unfold dispatchFrame
  split <;> exact ⟨_, stepIf_decide_of hp⟩

/-- The filter drops the frame at its first failing test or takes it. -/
theorem exec_hFilter_enabled (hp : s.h.seq = .filter) : ∃ t, exec .hFilter s = .next t := by
  change ∃ t, execHFilter s = .next t
  unfold execHFilter
  rw [if_neg (not_not_intro hp)]
  split
  · exact ⟨_, rfl⟩
  split
  · exact ⟨_, rfl⟩
  split
  · exact ⟨_, rfl⟩
  split
  · exact dispatchFrame_enabled _ _ hp
  · exact ⟨_, rfl⟩

theorem exec_stepH_enabled {q : HPhase} (h : Inv s) (hp : s.h.seq = q) (hd : handlerDue s q) :
    ∃ t, exec .stepH s = .next t := by
  rw [exec_stepH_eq_select, hp]
  cases q with
  | idle => exact hd.elim
  | flags | sent | read | deliver => exact ⟨_, stepIf_decide_of hp⟩
  | filter => exact exec_hFilter_enabled hp
  | gate p =>
    change ∃ t, exec (gateInstr .h p) s = .next t
    rw [exec_gateInstr]
    exact stepGate_enabled (decide_eq_true hp) (h.handler_frame p hp) hd

/-! ### Every phase that does not wait is due -/

theorem callerDue_of_not_waiting {q : CPhase} (hidle : q ≠ .idle) (hpoll : q ≠ .gate .poll)
    (hback : q ≠ .gate .backoff) (hw : q ≠ .wWait) (hs : q ≠ .sWait) : callerDue s q := by
  cases q with
  | idle => exact absurd rfl hidle
  | gate p => exact gateDue_of_not_waiting (ne_of_apply_ne _ hpoll) (ne_of_apply_ne _ hback)
  | after => trivial
  | wWait => exact absurd rfl hw
  | sWait => exact absurd rfl hs

theorem handlerDue_of_not_waiting {q : HPhase} (hidle : q ≠ .idle) (hpoll : q ≠ .gate .poll)
    (hback : q ≠ .gate .backoff) : handlerDue s q := by
  cases q with
  | idle => exact absurd rfl hidle
  | gate p => exact gateDue_of_not_waiting (ne_of_apply_ne _ hpoll) (ne_of_apply_ne _ hback)
  | flags | sent | read | filter | deliver => trivial

end Progress

/-- Settles O54: a waiting phase is due at its own deadline, every other phase but the idle one at once, and the step
record of a phase that is due answers a next state. -/
theorem everyHoldEndsAtItsDeadline : Obligations.EveryHoldEndsAtItsDeadline := fun _ h =>
  ⟨-- the caller sequencer
    fun hp hd => exec_stepC_enabled h hp hd,
    fun hp hd => exec_stepC_enabled h hp hd,
    fun hp hd => exec_stepC_enabled h hp hd,
    fun hp hd => exec_stepC_enabled h hp hd,
    fun hidle hpoll hback hw hs => exec_stepC_enabled h rfl (callerDue_of_not_waiting hidle hpoll hback hw hs),
    -- the handler
    fun hp hd => exec_stepH_enabled h hp hd,
    fun hp hd => exec_stepH_enabled h hp hd,
    fun hidle hpoll hback => exec_stepH_enabled h rfl (handlerDue_of_not_waiting hidle hpoll hback)⟩

/-- Settles O1: the three answers of `fetch`, one for each thing the script can hold next. -/
theorem stepRunsTheNextRecord : Obligations.StepRunsTheNextRecord := fun _ =>
  ⟨fun _ _ _ => step_of_decoded, fun _ _ => step_of_undecodable, step_of_no_record⟩

end Sys2Proof.Machine
end

section
/-! The encoding (30_encoding.md): the operands first, then what each format's parser reads off a record against what the
encoder writes, both ways, and the classes of a frame; `decodeInvertsEncode` and `recordsHaveOneEncoding` are assembled
from these, one case per row of the table. -/

namespace Sys2Proof

section Encoding

variable {par : Params} {i : Instr} {b t rest : Bytes}

/-! ### Operands (R98, R100, R101) -/

theorem toNat_ticksLo (v : Ticks) : (ticksLo v).toNat = v.toNat % 256 := BitVec.toNat_ofNat ..

theorem toNat_ticksHi (v : Ticks) : (ticksHi v).toNat = v.toNat / 256 := by
  have hv := v.isLt
  rw [ticksHi, BitVec.toNat_ofNat, Nat.mod_eq_of_lt (by omega)]

theorem toNat_ticksOf (lo hi : Byte) : (ticksOf lo hi).toNat = lo.toNat + 256 * hi.toNat := by
  have hlo := lo.isLt
  have hhi := hi.isLt
  rw [ticksOf, BitVec.toNat_ofNat, Nat.mod_eq_of_lt (by omega)]

@[simp] theorem ticksOf_ticksLo_ticksHi (v : Ticks) : ticksOf (ticksLo v) (ticksHi v) = v :=
  BitVec.eq_of_toNat_eq (by rw [toNat_ticksOf, toNat_ticksLo, toNat_ticksHi, Nat.mod_add_div])

@[simp] theorem ticksLo_ticksOf (lo hi : Byte) : ticksLo (ticksOf lo hi) = lo :=
  BitVec.eq_of_toNat_eq (by have := lo.isLt; rw [toNat_ticksLo, toNat_ticksOf]; omega)

@[simp] theorem ticksHi_ticksOf (lo hi : Byte) : ticksHi (ticksOf lo hi) = hi :=
  BitVec.eq_of_toNat_eq (by have := lo.isLt; rw [toNat_ticksHi, toNat_ticksOf]; omega)

/-- A flag operand is the byte of its value, and no other byte is one. -/
theorem flagOf_eq_some {f : Byte} {v : Bool} : flagOf f = some v ↔ f = flagByte v := by
  constructor
  · intro h
    unfold flagOf at h
    split_ifs at h with h0 h1
    · cases h; exact h0
    · cases h; exact h1
  · rintro rfl
    cases v <;> rfl

/-- A count byte and the bytes it counts are read as `counted` writes them. -/
theorem parseCounted_eq_some {p : Bytes} :
    parseCounted t = some (p, rest) ↔ countable p = true ∧ t = counted p ++ rest := by
  cases t with
  | nil => simp [parseCounted, counted]
  | cons n tail =>
    constructor
    · intro h
      simp only [parseCounted, Option.ite_none_right_eq_some, Option.some.injEq, Prod.mk.injEq] at h
      obtain ⟨hn, rfl, rfl⟩ := h
      have hlen : (tail.take n.toNat).length = n.toNat := List.length_take_of_le hn
      have hle : n.toNat ≤ 255 := Nat.le_of_lt_succ n.isLt
      exact ⟨decide_eq_true (hlen.trans_le hle), by simp [counted, hlen]⟩
    · rintro ⟨hp, h⟩
      obtain ⟨rfl, rfl⟩ := List.cons.inj h
      have hn : (BitVec.ofNat 8 p.length).toNat = p.length := Machine.countByte_toNat (of_decide_eq_true hp)
      simp [parseCounted, hn]

/-- The last operand of a format is a counted string. -/
theorem map_parseCounted_eq_some {f : Bytes → Instr} :
    ((parseCounted t).map fun q => (f q.1, q.2)) = some (i, rest) ↔
      ∃ p, i = f p ∧ countable p = true ∧ t = counted p ++ rest := by
  simp only [Option.map_eq_some_iff, Prod.exists, Prod.mk.injEq, parseCounted_eq_some]
  constructor
  · rintro ⟨p, _, hp, rfl, rfl⟩
    exact ⟨p, rfl, hp⟩
  · rintro ⟨p, rfl, hp⟩
    exact ⟨p, rest, hp, rfl, rfl⟩

theorem map_parseCounted_counted (f : Bytes → Instr) {p : Bytes} (hp : countable p = true) :
    ((parseCounted (counted p)).map fun q => (f q.1, q.2)) = some (f p, []) :=
  map_parseCounted_eq_some.mpr ⟨p, rfl, hp, (List.append_nil _).symm⟩

theorem parseInit_encoded (addr cfg power preset : Byte) (cad retry wps : Ticks) :
    parseInit [addr, cfg, power, preset, ticksLo cad, ticksHi cad, ticksLo retry, ticksHi retry, ticksLo wps,
      ticksHi wps] = some (.init addr cfg power preset cad retry wps, []) := by
  simp [parseInit]

/-! ### What a parser reads is the code of what it returns (R98, R100) -/

/-- On this port `b` is the code of the well-formed instruction `i` with `rest` after it. -/
def ReadsCode (par : Params) (port : Bytes → Record) (b : Bytes) (i : Instr) (rest : Bytes) : Prop :=
  i.wellFormed par = true ∧ ∃ code, encode i = .record (port code) ∧ b = code ++ rest

/-- A row whose code is one byte: format `C0`, the events without operands, `ILLEGAL`. -/
theorem readsCode_of_oneByte {port : Bytes → Record} {op : Byte} {j : Instr} (hj : j.wellFormed par = true)
    (hc : encode j = .record (port [op])) (h : some (j, t) = some (i, rest)) : ReadsCode par port (op :: t) i rest := by
  cases h
  exact ⟨hj, [op], hc, rfl⟩

theorem parseSend_readsCode (h : parseSend t = some (i, rest)) : ReadsCode par .cmd (opSend :: t) i rest := by
  match t, h with
  | dst :: id :: flags :: tail, h =>
    obtain ⟨p, rfl, hp, rfl⟩ := map_parseCounted_eq_some.mp h
    exact ⟨hp, _, rfl, rfl⟩

theorem parseSendw_readsCode (h : parseSendw t = some (i, rest)) : ReadsCode par .cmd (opSendw :: t) i rest := by
  match t, h with
  | dst :: flags :: retries :: tail, h =>
    obtain ⟨p, rfl, hp, rfl⟩ := map_parseCounted_eq_some.mp h
    exact ⟨hp, _, rfl, rfl⟩

theorem parseSetcb_readsCode (h : parseSetcb t = some (i, rest)) : ReadsCode par .cmd (opSetcb :: t) i rest := by
  match t, h with
  | en :: tail, h =>
    cases h
    exact ⟨rfl, _, rfl, rfl⟩

theorem parseInit_readsCode (h : parseInit t = some (i, rest)) : ReadsCode par .cmd (opInit :: t) i rest := by
  match t, h with
  | addr :: cfg :: power :: preset :: cl :: ch :: rl :: rh :: wl :: wh :: tail, h =>
    cases h
    exact ⟨rfl, _, rfl, by simp⟩

theorem parseEncode_readsCode (h : parseEncode t = some (i, rest)) : ReadsCode par .cmd (opEncode :: t) i rest := by
  match t, h with
  | dst :: src :: id :: flags :: tail, h =>
    obtain ⟨p, rfl, hp, rfl⟩ := map_parseCounted_eq_some.mp h
    exact ⟨hp, _, rfl, rfl⟩

theorem parseDecode_readsCode (h : parseDecode t = some (i, rest)) : ReadsCode par .cmd (opDecode :: t) i rest := by
  obtain ⟨p, rfl, hp, rfl⟩ := map_parseCounted_eq_some.mp h
  exact ⟨hp, _, rfl, rfl⟩

theorem parseRxdone_readsCode (h : parseRxdone t = some (i, rest)) : ReadsCode par .evt (evRxdoneCode :: t) i rest := by
  match t, h with
  | crc :: rssi :: snr :: tail, h =>
    obtain ⟨v, hv, hq⟩ := Option.bind_eq_some_iff.mp h
    obtain ⟨p, rfl, hp, rfl⟩ := map_parseCounted_eq_some.mp hq
    obtain rfl := flagOf_eq_some.mp hv
    exact ⟨hp, _, rfl, rfl⟩

theorem parseCaddone_readsCode (h : parseCaddone t = some (i, rest)) :
    ReadsCode par .evt (evCaddoneCode :: t) i rest := by
  match t, h with
  | det :: tail, h =>
    obtain ⟨v, hv, hq⟩ := Option.map_eq_some_iff.mp h
    cases hq
    obtain rfl := flagOf_eq_some.mp hv
    exact ⟨rfl, _, rfl, rfl⟩

/-- The legal opcodes are those the parser tests for. -/
theorem legalOpcodes_eq :
    legalOpcodes =
      [opSend, opSendw, opModeIdle, opModeRx, opModeTx, opSleep, opWaitsent, opClose, opSetcb, opInit, opEncode,
        opDecode] := rfl

/-- An opcode outside the table is `ILLEGAL`, and the parser leaves what follows it (R102). -/
theorem parseCmd_of_not_legal {op : Byte} (hop : op ∉ legalOpcodes) : parseCmd (op :: t) = some (.illegal op, t) := by
  simp only [legalOpcodes_eq, List.mem_cons, List.not_mem_nil, or_false, not_or] at hop
  simp only [parseCmd, hop, if_false]

theorem illegal_wellFormed {op : Byte} : (Instr.illegal op).wellFormed par = true ↔ op ∉ legalOpcodes := by
  simp [Instr.wellFormed]

theorem parseCmd_readsCode (h : parseCmd b = some (i, rest)) : ReadsCode par .cmd b i rest := by
  cases b with
  | nil => cases h
  | cons op tail =>
    by_cases hop : op ∈ legalOpcodes
    · simp only [legalOpcodes_eq, List.mem_cons, List.not_mem_nil, or_false] at hop
      obtain rfl | rfl | rfl | rfl | rfl | rfl | rfl | rfl | rfl | rfl | rfl | rfl := hop
      · exact parseSend_readsCode h
      · exact parseSendw_readsCode h
      · exact readsCode_of_oneByte (j := .modeIdle) rfl rfl h
      · exact readsCode_of_oneByte (j := .modeRx) rfl rfl h
      · exact readsCode_of_oneByte (j := .modeTx) rfl rfl h
      · exact readsCode_of_oneByte (j := .sleep) rfl rfl h
      · exact readsCode_of_oneByte (j := .waitsent) rfl rfl h
      · exact readsCode_of_oneByte (j := .close) rfl rfl h
      · exact parseSetcb_readsCode h
      · exact parseInit_readsCode h
      · exact parseEncode_readsCode h
      · exact parseDecode_readsCode h
    · rw [parseCmd_of_not_legal hop] at h
      exact readsCode_of_oneByte (illegal_wellFormed.mpr hop) rfl h

theorem parseEvt_readsCode (h : parseEvt b = some (i, rest)) : ReadsCode par .evt b i rest := by
  cases b with
  | nil => cases h
  | cons code tail =>
    simp only [parseEvt] at h
    split_ifs at h with htick htxdone hrxdone hcaddone hstepC hstepH hstepX
    · exact htick ▸ readsCode_of_oneByte rfl rfl h
    · exact htxdone ▸ readsCode_of_oneByte rfl rfl h
    · exact hrxdone ▸ parseRxdone_readsCode h
    · exact hcaddone ▸ parseCaddone_readsCode h
    · exact hstepC ▸ readsCode_of_oneByte rfl rfl h
    · exact hstepH ▸ readsCode_of_oneByte rfl rfl h
    · exact hstepX ▸ readsCode_of_oneByte rfl rfl h

/-! ### Whole records (R96, R102) -/

/-- A record is whole when nothing is left over, an `ILLEGAL` one whatever is. -/
theorem wholeRecord_eq_some {q : Option (Instr × Bytes)} :
    wholeRecord q = some i ↔ ∃ rest, q = some (i, rest) ∧ ((∃ op, i = .illegal op) ∨ rest = []) := by
  constructor
  · intro h
    unfold wholeRecord at h
    split at h
    · next op r => cases h; exact ⟨r, rfl, .inl ⟨op, rfl⟩⟩
    · next => cases h; exact ⟨[], rfl, .inr rfl⟩
    · cases h
    · cases h
  · rintro ⟨rest, rfl, ⟨op, rfl⟩ | rfl⟩
    · rfl
    · cases i <;> rfl

theorem decode_cmd (h : parseCmd b = some (i, [])) : decode par (.record (.cmd b)) = some i :=
  wholeRecord_eq_some.mpr ⟨[], h, .inr rfl⟩

theorem decode_evt (h : parseEvt b = some (i, [])) : decode par (.record (.evt b)) = some i :=
  wholeRecord_eq_some.mpr ⟨[], h, .inr rfl⟩

/-- An `ILLEGAL` record is consumed whatever follows its opcode (R102). -/
theorem decode_cmd_of_not_legal {op : Byte} (hop : op ∉ legalOpcodes) :
    decode par (.record (.cmd (op :: t))) = some (.illegal op) :=
  wholeRecord_eq_some.mpr ⟨t, parseCmd_of_not_legal hop, .inl ⟨op, rfl⟩⟩

/-- What a whole record reads as is well formed and, unless it is `ILLEGAL`, has that record as its code. -/
theorem ReadsCode.of_whole {port : Bytes → Record} (h : ReadsCode par port b i rest)
    (hrest : (∃ op, i = .illegal op) ∨ rest = []) :
    i.wellFormed par = true ∧ ((∀ op, i ≠ .illegal op) → encode i = .record (port b)) := by
  obtain ⟨hwf, code, hc, rfl⟩ := h
  refine ⟨hwf, fun hni => ?_⟩
  have hnil : rest = [] := hrest.resolve_left fun ⟨op, hop⟩ => hni op hop
  rw [hnil, List.append_nil]
  exact hc

/-! ### Frames (R90, R91, R93) -/

section Frames

variable {dst src id flags : Byte} {p : Bytes}

theorem classOf_eq_ack {h : Header} (hf : h.flags &&& par.ackMask ≠ 0) : classOf par h = .ack :=
  if_pos ((Machine.isAck_iff par h.flags).mpr hf)

theorem classOf_eq_dataBcast {h : Header} (hf : h.flags &&& par.ackMask = 0) (hd : h.dst = Config.broadcast) :
    classOf par h = .dataBcast :=
  (if_neg ((Machine.isAck_iff par h.flags).not.mpr (not_not_intro hf))).trans (if_pos hd)

theorem classOf_eq_dataUcast {h : Header} (hf : h.flags &&& par.ackMask = 0) (hd : h.dst ≠ Config.broadcast) :
    classOf par h = .dataUcast :=
  (if_neg ((Machine.isAck_iff par h.flags).not.mpr (not_not_intro hf))).trans (if_neg hd)

/-- Four or more bytes are the frame row of their header's class. -/
theorem decode_frame_eq_frameInstr :
    decode par (.frame (dst :: src :: id :: flags :: p)) = some (frameInstr par ⟨dst, src, id, flags⟩ p) := rfl

theorem decode_frameAck (hf : flags &&& par.ackMask ≠ 0) :
    decode par (.frame (dst :: src :: id :: flags :: p)) = some (.frameAck dst src id flags p) := by
  rw [decode_frame_eq_frameInstr, frameInstr, classOf_eq_ack hf]

theorem decode_frameDataBcast (hf : flags &&& par.ackMask = 0) :
    decode par (.frame (Config.broadcast :: src :: id :: flags :: p)) = some (.frameDataBcast src id flags p) := by
  rw [decode_frame_eq_frameInstr, frameInstr, classOf_eq_dataBcast hf rfl]

theorem decode_frameDataUcast (hf : flags &&& par.ackMask = 0) (hd : dst ≠ Config.broadcast) :
    decode par (.frame (dst :: src :: id :: flags :: p)) = some (.frameDataUcast dst src id flags p) := by
  rw [decode_frame_eq_frameInstr, frameInstr, classOf_eq_dataUcast hf hd]

/-- Fewer than four bytes are no frame. -/
theorem decode_frame_of_short (hb : b.length < 4) : decode par (.frame b) = none := by
  match b, hb with
  | [], _ | [_], _ | [_, _], _ | [_, _, _], _ => rfl

theorem ackBit_eq_false : ackBit par flags = false ↔ flags &&& par.ackMask = 0 := by simp [ackBit]

end Frames

end Encoding

/-! ### Padding (R105) -/

/-- A number and what it lacks to the next multiple of `m` make a multiple of `m`. -/
theorem add_sub_mod_mod_eq_zero {m : Nat} (hm : 0 < m) (n : Nat) : (n + (m - n % m) % m) % m = 0 := by
  have hlt := Nat.mod_lt n hm
  have hdiv := Nat.mod_add_div n m
  have hnext : n + (m - n % m) = m * (n / m + 1) := by rw [Nat.mul_succ]; omega
  rw [Nat.add_mod_mod, hnext, Nat.mul_mod_right]

/-- Nothing smaller does: below it the remainder of `n` only grows and stays under `m`. -/
theorem add_mod_ne_zero_of_lt_padding {m n j : Nat} (hj : j < (m - n % m) % m) : (n + j) % m ≠ 0 := by
  have hr : n % m ≠ 0 := fun h0 => by simp [h0] at hj
  have hle : (m - n % m) % m ≤ m - n % m := Nat.mod_le _ _
  rw [← Nat.mod_add_mod, Nat.mod_eq_of_lt (by omega)]
  omega

/-! ### The statements -/

/-- Settles O3, by cases on the row: a command or event record is read by its format's parser with nothing left over, a
frame by its class, and a row selected by a register is its own code. -/
theorem decodeInvertsEncode : Obligations.DecodeInvertsEncode := by
  intro par i h
  cases i with
  -- commands
  | send dst id flags p => exact decode_cmd (map_parseCounted_counted (.send dst id flags) h)
  | sendw dst flags retries p => exact decode_cmd (map_parseCounted_counted (.sendw dst flags retries) h)
  | encode dst src id flags p => exact decode_cmd (map_parseCounted_counted (.encode dst src id flags) h)
  | decode b => exact decode_cmd (map_parseCounted_counted .decode h)
  | init addr cfg power preset cad retry wps =>
    exact decode_cmd (parseInit_encoded addr cfg power preset cad retry wps)
  | modeIdle | modeRx | modeTx | sleep | waitsent | close | setcb => rfl
  | illegal op => exact decode_cmd_of_not_legal (illegal_wellFormed.mp h)
  -- frame classes
  | frameAck dst src id flags p =>
    obtain ⟨hf, -⟩ := Bool.and_eq_true_iff.mp h
    exact decode_frameAck (of_decide_eq_true hf)
  | frameDataBcast src id flags p =>
    simp only [Instr.wellFormed, Bool.and_eq_true, Bool.not_eq_true'] at h
    obtain ⟨hf, -⟩ := h
    exact decode_frameDataBcast (ackBit_eq_false.mp hf)
  | frameDataUcast dst src id flags p =>
    simp only [Instr.wellFormed, Bool.and_eq_true, Bool.not_eq_true', decide_eq_true_eq] at h
    obtain ⟨⟨hf, hd⟩, -⟩ := h
    exact decode_frameDataUcast (ackBit_eq_false.mp hf) hd
  -- event and step records
  | evRxdone v rssi snr b =>
    refine decode_evt (Option.bind_eq_some_iff.mpr ⟨v, flagOf_eq_some.mpr rfl, ?_⟩)
    exact map_parseCounted_counted (.evRxdone v rssi snr) h
  | evCaddone v => exact decode_evt (Option.map_eq_some_iff.mpr ⟨v, flagOf_eq_some.mpr rfl, rfl⟩)
  | evTick | evTxdone | stepC | stepH | stepX => rfl
  -- rows selected by a register
  | irqSent | irqRecv | irqCad => rfl
  | hIdle | hFlags | hSent | hRead | hFilter | hDeliver => rfl
  | gStart a | gCad a | gPoll a | gBusy a | gBackoff a | gFifo a | gTrig a => cases a <;> rfl
  | cAfterSend | cAfterSendw | wWait | sWait => rfl

/-- Settles O4: what the parser read off the record is the code of what it returned, and a whole record has nothing
after that code. -/
theorem recordsHaveOneEncoding : Obligations.RecordsHaveOneEncoding := by
  intro par r i h
  cases r with
  | cmd b =>
    obtain ⟨_, hq, hrest⟩ := wholeRecord_eq_some.mp h
    exact (parseCmd_readsCode hq).of_whole hrest
  | evt b =>
    obtain ⟨_, hq, hrest⟩ := wholeRecord_eq_some.mp h
    exact (parseEvt_readsCode hq).of_whole hrest

/-- Settles O7: the padding completes the block, and anything below it leaves a remainder. -/
theorem paddingIsMinimal : Obligations.PaddingIsMinimal :=
  ⟨fun _ => rfl,
    fun k n => ⟨add_sub_mod_mod_eq_zero (Nat.succ_pos k.blockPred) n, fun _ => add_mod_ne_zero_of_lt_padding⟩⟩

/-- Settles O48: a step record runs the row its phase register selects. -/
theorem stepRecordsRunTheSelectedPhase : Obligations.StepRecordsRunTheSelectedPhase := by
  refine fun s => ⟨fun _ => Machine.exec_stepC_of_select, fun i hi => ?_, Machine.exec_stepC_idle⟩
  have hsel : selectH s.h.seq = i := Option.some.inj hi
  rw [Machine.exec_stepH_eq_select, hsel]

/-- Settles O2: each code written out is the encoder's code of the instruction it stands for. -/
theorem writtenCodesDecode : Obligations.WrittenCodesDecode :=
  ⟨decodeInvertsEncode {} (.send 10 7 0 [0x48, 0x69]) rfl,
    decodeInvertsEncode {} (.sendw 10 0 2 [0x48, 0x69]) rfl,
    decodeInvertsEncode {} (.setcb 1) rfl,
    decodeInvertsEncode {} (.init 2 1 14 0 1000 200 500) rfl,
    decodeInvertsEncode {} (.decode [1, 2, 3]) rfl,
    decodeInvertsEncode {} (.evRxdone true 0x50 0x20 [0x02, 0x0A, 0x01, 0x80]) rfl,
    decodeInvertsEncode {} (.frameAck 2 10 1 0x80 []) rfl,
    decodeInvertsEncode {} .irqSent rfl,
    decodeInvertsEncode {} .cAfterSendw rfl,
    decodeInvertsEncode {} (.gTrig .h) rfl⟩

/-- Settles O5: the three tests in order, then the strings too short for a header. -/
theorem frameClassesInOrder : Obligations.FrameClassesInOrder := fun _ =>
  ⟨fun _ _ _ _ _ => ⟨decode_frameAck, fun hf hd => hd ▸ decode_frameDataBcast hf, decode_frameDataUcast⟩,
    fun _ => decode_frame_of_short⟩

/-- Settles O20: the opcodes of the statement are the table's, and the answer to `ILLEGAL` reads no state. -/
theorem illegalOpcodesAreAnswered : Obligations.IllegalOpcodesAreAnswered := fun _ _ _ hop =>
  ⟨decode_cmd_of_not_legal hop, rfl⟩

end Sys2Proof
end

section
/-! The Frame Codec (40_frame_codec.md): what `Encode` and `Decode` answer, one equation per case; the round trip; and
the two commands, which are the codec on the cipher of the session. -/

namespace Sys2Proof.Machine

open Sys2Proof

section Codec

variable {c : Option Cipher} {k : Cipher} {h : Header} {p fill body f b : Bytes} {s : State}

/-! ### Padding (R105) -/

theorem add_padLen_mod_eq_zero (k : Cipher) (n : Nat) : (n + padLen (some k) n) % k.B = 0 :=
  (paddingIsMinimal.2 k n).1

/-- Only a payload of whole blocks takes no padding. -/
theorem padLen_eq_zero_iff {n : Nat} : padLen (some k) n = 0 ↔ n % k.B = 0 := by
  constructor
  · intro hpad
    have hsum := add_padLen_mod_eq_zero k n
    rwa [hpad, Nat.add_zero] at hsum
  · intro hn
    rw [padLen, hn, Nat.sub_zero, Nat.mod_self]

/-- A payload and its padding are whole blocks. -/
theorem length_append_fill_mod_eq_zero (hfill : fill.length = padLen (some k) p.length) :
    (p ++ fill).length % k.B = 0 := by
  rw [List.length_append, hfill, add_padLen_mod_eq_zero]

/-! ### `Encode` (R121 to R124) -/

/-- `ENC` keeps the length, so a body is the payload and its padding long. -/
theorem encodeBody_length (hfill : fill.length = padLen c p.length) :
    (encodeBody c fill p).length = p.length + padLen c p.length := by
  cases c with
  | none => rfl
  | some k => rw [encodeBody, Cipher.enc_length, List.length_append, hfill]

theorem encodeWith_of_le {cap : Nat} (hcap : encLen c p.length ≤ cap) :
    encodeWith cap c fill h p = some (headerBytes h ++ encodeBody c fill p) := if_pos hcap

theorem encodeWith_of_not_le {cap : Nat} (hcap : ¬ encLen c p.length ≤ cap) : encodeWith cap c fill h p = none :=
  if_neg hcap

theorem length_headerBytes_append_encodeBody (hfill : fill.length = padLen c p.length) :
    (headerBytes h ++ encodeBody c fill p).length = 4 + p.length + padLen c p.length := by
  rw [List.length_append, headerBytes_length, encodeBody_length hfill, Nat.add_assoc]

/-! ### `Decode` (R125 to R127) -/

/-- Below four bytes there is no header. -/
theorem splitHeader_of_short (hb : b.length < 4) : splitHeader b = none := by
  match b, hb with
  | [], _ | [_], _ | [_, _], _ | [_, _, _], _ => rfl

/-- From four bytes on there is one. -/
theorem exists_eq_headerBytes_append (hb : ¬ b.length < 4) : ∃ h body, b = headerBytes h ++ body := by
  match b, hb with
  | dst :: src :: id :: flags :: body, _ => exact ⟨⟨dst, src, id, flags⟩, body, rfl⟩
  | [], hb | [_], hb | [_, _], hb | [_, _, _], hb => exact absurd (by simp) hb

theorem openPayload_of_mod_eq_zero (hm : body.length % k.B = 0) : openPayload (some k) body = some (k.dec body) :=
  if_pos hm

theorem openPayload_of_mod_ne_zero (hm : body.length % k.B ≠ 0) : openPayload (some k) body = none := if_neg hm

theorem decodeWith_of_short (hb : b.length < 4) : decodeWith c b = .tooShort := by
  rw [decodeWith, splitHeader_of_short hb]

theorem decodeWith_none (h : Header) (body : Bytes) : decodeWith none (headerBytes h ++ body) = .frame h body := rfl

theorem decodeWith_of_mod_eq_zero (h : Header) (hm : body.length % k.B = 0) :
    decodeWith (some k) (headerBytes h ++ body) = .frame h (k.dec body) := by
  simp only [decodeWith, splitHeader_append, openPayload_of_mod_eq_zero hm]

theorem decodeWith_of_mod_ne_zero (h : Header) (hm : body.length % k.B ≠ 0) :
    decodeWith (some k) (headerBytes h ++ body) = .cipherLength := by
  simp only [decodeWith, splitHeader_append, openPayload_of_mod_ne_zero hm]

/-! ### The round trip (R130) -/

/-- The body is whole blocks, so `Decode` reaches `DEC`, and `INV` undoes `ENC` on the payload and its padding. -/
theorem decodeWith_encoded (hk : k.Inverts) (h : Header) (hfill : fill.length = padLen (some k) p.length) :
    decodeWith (some k) (headerBytes h ++ encodeBody (some k) fill p) = .frame h (p ++ fill) := by
  have hblocks := length_append_fill_mod_eq_zero hfill
  have hbody : (k.enc (p ++ fill)).length % k.B = 0 := by rw [Cipher.enc_length, hblocks]
  rw [encodeBody, decodeWith_of_mod_eq_zero h hbody, hk _ hblocks]

/-- The padding shows in what `Decode` returns unless there is none. -/
theorem append_fill_eq_self_iff (hfill : fill.length = padLen (some k) p.length) :
    p ++ fill = p ↔ p.length % k.B = 0 := by
  rw [List.append_right_eq_self, ← List.length_eq_zero_iff, hfill, padLen_eq_zero_iff]

/-! ### The codec of a session (R120) -/

theorem sessionCipher_of_enabled (he : s.session.cipherEn = true) : sessionCipher s = some Config.cipher := if_pos he

theorem sessionCipher_of_disabled (he : s.session.cipherEn = false) : sessionCipher s = none := by
  rw [sessionCipher, he]
  rfl

theorem encodeBody_sessionCipher (fill p : Bytes) (s : State) :
    encodeBody (sessionCipher s) fill p = if s.session.cipherEn then Config.cipher.enc (p ++ fill) else p := by
  cases he : s.session.cipherEn with
  | false => rw [sessionCipher_of_disabled he]; rfl
  | true => rw [sessionCipher_of_enabled he]; rfl

/-! ### Commands that no sequencer runs (R241) -/

theorem accept_closed {op : Byte} {q : Bool} {run : State} (ho : s.session.isOpen = false) :
    accept op q s run = respond op .closed [] s := by
  rw [accept, ho]
  rfl

theorem accept_unsequenced {op : Byte} {run : State} (ho : s.session.isOpen = true) : accept op false s run = run :=
  accept_open ho (by simp)

/-! ### `ENCODE` (R128) -/

theorem exec_encode_of_some {dst src id flags : Byte} (ho : s.session.isOpen = true)
    (hf : encodeFrame ⟨dst, src, id, flags⟩ p s = some f) :
    exec (.encode dst src id flags p) s =
      .next (respond opEncode .ok (countByte f.length :: f) (encodeDrawn s)) := by
  rw [exec, execEncode, accept_unsequenced ho, hf]

theorem exec_encode_of_none {dst src id flags : Byte} (ho : s.session.isOpen = true)
    (hf : encodeFrame ⟨dst, src, id, flags⟩ p s = none) :
    exec (.encode dst src id flags p) s = .next (respond opEncode .frameTooLarge [] s) := by
  rw [exec, execEncode, accept_unsequenced ho, hf]

/-- What is drawn is the padding, and only a cipher asks for it (R121). -/
theorem encodeDrawn_draws (s : State) :
    (encodeDrawn s).draws = if s.session.cipherEn then s.draws + 1 else s.draws := by
  unfold encodeDrawn
  split <;> rfl

/-! ### `DECODE` (R129) -/

theorem exec_decode_open (ho : s.session.isOpen = true) :
    exec (.decode b) s = .next (respondDecoded (decodeWith (sessionCipher s) b) s) := by
  rw [exec, execDecode, accept_unsequenced ho]

theorem exec_decode_closed (ho : s.session.isOpen = false) :
    exec (.decode b) s = .next (respond opDecode .closed [] s) := by
  rw [exec, execDecode, accept_closed ho]

/-- The answer to `DECODE` as a command's response: the status byte, then on success the header, the count and the
payload. -/
def decodedAnswer : Decoded → Bytes
  | .tooShort => [0x11, 0x02]
  | .cipherLength => [0x11, 0x0A]
  | .frame h m => [0x11, 0x00] ++ headerBytes h ++ [BitVec.ofNat 8 m.length] ++ m

theorem respondDecoded_eq (d : Decoded) (s : State) :
    respondDecoded d s = { s with resp := s.resp ++ [decodedAnswer d] } := by
  cases d <;> rfl

/-- The three answers of R129, read off the bytes and the session: `Decode` in the terms of the response. -/
theorem decodedAnswer_decodeWith_sessionCipher (s : State) (b : Bytes) :
    decodedAnswer (decodeWith (sessionCipher s) b) =
      if b.length < 4 then [0x11, 0x02]
      else if s.session.cipherEn = true ∧ (b.length - 4) % Config.cipher.B ≠ 0 then [0x11, 0x0A]
      else [0x11, 0x00] ++ b.take 4 ++ [BitVec.ofNat 8 (b.length - 4)] ++
        (if s.session.cipherEn then Config.cipher.dec (b.drop 4) else b.drop 4) := by
  by_cases hb : b.length < 4
  · rw [decodeWith_of_short hb, if_pos hb]
    rfl
  · obtain ⟨h, body, rfl⟩ := exists_eq_headerBytes_append hb
    have hlen : (headerBytes h ++ body).length - 4 = body.length := by simp
    have htake : (headerBytes h ++ body).take 4 = headerBytes h := rfl
    have hdrop : (headerBytes h ++ body).drop 4 = body := rfl
    rw [if_neg hb, hlen, htake, hdrop]
    cases he : s.session.cipherEn with
    | false =>
      rw [sessionCipher_of_disabled he, decodeWith_none]
      rfl
    | true =>
      rw [sessionCipher_of_enabled he]
      by_cases hm : body.length % Config.cipher.B = 0
      · rw [decodeWith_of_mod_eq_zero h hm, if_neg (fun hbad => hbad.2 hm), decodedAnswer, Cipher.dec_length, if_pos rfl]
      · rw [decodeWith_of_mod_ne_zero h hm, if_pos ⟨rfl, hm⟩]
        rfl

end Codec

/-! ### The statements -/

/-- Settles O6: without a cipher the body is the payload itself, with one `decodeWith_encoded` is the round trip. -/
theorem codecRoundTrip : Obligations.CodecRoundTrip := by
  intro par c fill h p hcap hfill hinv
  refine ⟨_, encodeWith_of_le hcap, length_headerBytes_append_encodeBody hfill, ?_, ?_⟩
  · rintro rfl
    exact decodeWith_none h p
  · rintro k rfl
    exact ⟨decodeWith_encoded (hinv k rfl) h hfill, List.take_left, append_fill_eq_self_iff hfill⟩

/-- Settles O8: a frame is its header and then its body. -/
theorem headerIsNeverTransformed : Obligations.HeaderIsNeverTransformed := by
  intro cap c fill h p f hf
  obtain ⟨-, rfl⟩ := encodeWith_eq_some.mp hf
  exact List.take_left' (headerBytes_length h)

/-- Settles O9: too short for a header; a header and no cipher; a header and a cipher, by whether the rest is whole
blocks. -/
theorem decodeOnEveryInput : Obligations.DecodeOnEveryInput := by
  refine ⟨fun _ _ => decodeWith_of_short, fun dst src id flags body => ⟨decodeWith_none ⟨dst, src, id, flags⟩ body, ?_⟩⟩
  intro k
  split
  next hm => exact decodeWith_of_mod_eq_zero ⟨dst, src, id, flags⟩ hm
  next hm => exact decodeWith_of_mod_ne_zero ⟨dst, src, id, flags⟩ hm

/-- Settles O10: the frame of `encodeWith` on both sides of `FIFO_CAP`, its body the session's, its padding a draw of the
length asked. -/
theorem encodeCommandAnswers : Obligations.EncodeCommandAnswers := by
  intro s dst src id flags p ho
  split
  next hcap =>
    rw [exec_encode_of_some ho (encodeWith_of_le hcap), length_headerBytes_append_encodeBody (freeBytes_length _ _),
      encodeBody_sessionCipher, encodeDrawn_eq, encodeDrawn_draws]
    rfl
  next hcap => exact exec_encode_of_none ho (encodeWith_of_not_le hcap)

/-- Settles O11: on an open session the answer is `Decode`'s on the session's cipher; a closed one refuses. -/
theorem decodeCommandAnswers : Obligations.DecodeCommandAnswers := by
  refine fun s b => ⟨fun ho => ?_, exec_decode_closed⟩
  rw [exec_decode_open ho, respondDecoded_eq, decodedAnswer_decodeWith_sessionCipher]

end Sys2Proof.Machine
end

section
/-! The Radio State Machine (41_radio_mode.md): `SetMode` as one record update for each of the modes a command can name,
the four mode commands, and which instruction can put the radio in which mode (R149). -/

namespace Sys2Proof.Machine

open Sys2Proof

section RadioMode

variable {s t : State} {i : Instr}

/-! ### `SetMode` (R141) -/

/-- Entering `Sleep`, `Idle` or `Receiving` cancels what is in flight and starts nothing. -/
theorem setMode_of_no_entry {m : Mode} (hl : m ≠ .channelListen) (ht : m ≠ .transmitting) (s : State) :
    setMode m s =
      { s with
        session := { s.session with mode := m }
        radio := { s.radio with txInflight := false, cadInflight := false }
        port := s.port ++ [.writeMode m] } := by
  cases m with
  | sleep | idle | receiving => simp [setMode, enterMode, cancelInflight, access]
  | channelListen => exact absurd rfl hl
  | transmitting => exact absurd rfl ht

/-- Entering `Transmitting` sends the staged frame, and drawn bytes when the block staged none. -/
theorem setMode_transmitting (s : State) :
    setMode .transmitting s =
      { s with
        session := { s.session with mode := .transmitting, txDone := false }
        radio :=
          { s.radio with
            txInflight := true
            cadInflight := false
            txBytes := if s.radio.fifoSrc = .tx then s.radio.fifo else freeString s.draws }
        port := s.port ++ [.writeMode .transmitting]
        draws := if s.radio.fifoSrc = .tx then s.draws else s.draws + 1 } := by
  by_cases h : s.radio.fifoSrc = .tx <;>
    simp [setMode, enterMode, cancelInflight, latchTransmission, setTxDone, drawn, access, h]

/-! ### The mode commands (R142 to R145) -/

theorem modeCommand_open (op : Byte) (m : Mode) (ho : s.session.isOpen = true) :
    modeCommand op m s = respond op .ok [] (setMode m s) :=
  accept_unsequenced ho

theorem modeCommand_of_no_entry (op : Byte) {m : Mode} (ho : s.session.isOpen = true) (hl : m ≠ .channelListen)
    (ht : m ≠ .transmitting) :
    modeCommand op m s =
      { s with
        session := { s.session with mode := m }
        radio := { s.radio with txInflight := false, cadInflight := false }
        port := s.port ++ [.writeMode m]
        resp := s.resp ++ [[op, 0x00]] } := by
  rw [modeCommand_open op m ho, setMode_of_no_entry hl ht]
  rfl

theorem modeCommand_mode (op : Byte) (m : Mode) (s : State) :
    (modeCommand op m s).session.mode = s.session.mode ∨ (modeCommand op m s).session.mode = m := by
  cases ho : s.session.isOpen with
  | false => left; rw [modeCommand, accept_closed ho, respond_session]
  | true => right; rw [modeCommand_open op m ho, respond_session, setMode_session]

/-! ### The callers of `SetMode` (R149) -/

/-- Instruction `i`, run in state `s`, is one of the callers that R149 lists for the mode. -/
def MayEnter (i : Instr) (s : State) : Mode → Prop
  | .idle =>
    i = .modeIdle ∨ i = .hSent ∨ i = .irqSent ∨ (i = .stepH ∧ s.h.seq = .sent) ∨
      ∃ a b c d e f g, i = .init a b c d e f g
  | .receiving => i = .modeRx
  | .sleep => i = .sleep ∨ i = .stepX
  | .channelListen => (∃ a, i = .gCad a) ∨ (i = .stepC ∧ s.c.seq = .gate .cad) ∨ (i = .stepH ∧ s.h.seq = .gate .cad)
  | .transmitting =>
    i = .modeTx ∨ (∃ a, i = .gTrig a) ∨ (i = .stepC ∧ s.c.seq = .gate .trig) ∨ (i = .stepH ∧ s.h.seq = .gate .trig)

/-- From `s` to `t` the mode is kept, or `i` is a listed caller for the mode of `t`. -/
def ModeListed (i : Instr) (s t : State) : Prop := t.session.mode = s.session.mode ∨ MayEnter i s t.session.mode

theorem ModeListed.of_mode_eq {m : Mode} (hm : t.session.mode = m) (h : MayEnter i s m) : ModeListed i s t :=
  .inr (hm ▸ h)

theorem ModeListed.of_kept_or_mode_eq {m : Mode} (hm : t.session.mode = s.session.mode ∨ t.session.mode = m)
    (h : MayEnter i s m) : ModeListed i s t :=
  hm.elim .inl (.of_mode_eq · h)

/-! ### The mode under each agent's micro-steps -/

/-- Of the gate's phases `G_CAD` and `G_TRIG` write the mode (R202, R208). -/
theorem GateStep.modeListed {a : Sequencer} {p : GatePhase} (e : GateStep a s p t)
    (hcad : p = .cad → MayEnter i s .channelListen) (htrig : p = .trig → MayEnter i s .transmitting) :
    ModeListed i s t := by
  cases e with
  | detect => exact .of_mode_eq (by simp) (hcad rfl)
  | trigger => exact .of_mode_eq (by simp) (htrig rfl)
  | report => exact .inl (by simp [takeReport])
  | start | windowEnd | boundReached | backOff | retry | stage => exact .inl (by simp)

theorem CallerStep.mode_eq (e : CallerStep s t) : t.session.mode = s.session.mode := by
  cases e <;> rfl

/-- Of the handler's own phases `H_SENT` writes the mode (R163). -/
theorem HandlerStep.modeListed (e : HandlerStep s t) (hsent : s.h.seq = .sent → MayEnter i s .idle) :
    ModeListed i s t := by
  cases e with
  | served hp => exact .of_mode_eq (by simp [servePacketSent]) (hsent hp)
  | received => exact .inl (by rw [servePacketReceived_eq])
  | undecryptable => exact .inl (by simp [cipherLengthDrop])
  | consumed => exact .inl (by simp [ackMatch_eq])
  | acknowledge => exact .inl (by simp [startAutoAck_eq])
  | enter | snapshot | dropped | accepted | delivered | undelivered => exact .inl (by simp)

theorem EnvStep.mode_eq (e : EnvStep s i t) : t.session.mode = s.session.mode := by
  cases e <;> rfl

/-- A handler row of another phase than `H_SENT` does not write the mode: it runs in its own phase only. -/
theorem HandlerStep.modeListed_of_selected (e : HandlerStep s t) (q : HPhase) (hi : exec i s = .next t)
    (hstop : s.h.seq ≠ q → exec i s = .refused .notSelected) (hq : q ≠ .sent) : ModeListed i s t := by
  refine e.modeListed fun hp => ?_
  rw [hstop (hp ▸ hq.symm)] at hi
  cases hi

/-! ### The mode under the commands -/

/-- A refusal keeps the mode, so a command that keeps it when it runs keeps it always. -/
theorem accept_mode_eq {op : Byte} {q : Bool} {run : State} (hrun : run.session.mode = s.session.mode) :
    (accept op q s run).session.mode = s.session.mode := by
  obtain ⟨-, h⟩ | ⟨-, -, -, h⟩ | ⟨-, -, h⟩ := accept_cases op q s run <;> rw [h]
  · rfl
  · rfl
  · exact hrun

theorem makeRecord_mode (dst id retries : Byte) (s : State) :
    (makeRecord dst id retries s).session.mode = s.session.mode := by
  unfold makeRecord
  split <;> rfl

theorem execSend_mode_eq {dst id flags : Byte} {p : Bytes} (e : execSend dst id flags p s = .next t) :
    t.session.mode = s.session.mode := by
  cases e
  refine accept_mode_eq ?_
  split
  · rfl
  · rw [startCaller_session, encodeDrawn_session]

theorem execSendw_mode_eq {dst flags retries : Byte} {p : Bytes} (e : execSendw dst flags retries p s = .next t) :
    t.session.mode = s.session.mode := by
  cases e
  refine accept_mode_eq ?_
  split
  · rfl
  · rw [startCaller_session, makeRecord_mode, useNextId_session, encodeDrawn_session]

theorem execSetcb_mode_eq {en : Byte} (e : execSetcb en s = .next t) : t.session.mode = s.session.mode := by
  cases e
  split
  · rfl
  · exact accept_mode_eq rfl

theorem execEncode_mode_eq {dst src id flags : Byte} {p : Bytes} (e : execEncode dst src id flags p s = .next t) :
    t.session.mode = s.session.mode := by
  cases e
  refine accept_mode_eq ?_
  split
  · rfl
  · rw [respond_session, encodeDrawn_session]

theorem execDecode_mode_eq {b : Bytes} (e : execDecode b s = .next t) : t.session.mode = s.session.mode := by
  cases e
  exact accept_mode_eq (by rw [respondDecoded_eq])

/-- A refused `INIT` keeps the mode, an accepted one ends in `Idle` (R220). -/
theorem execInit_mode {addr cfg power preset : Byte} {cad retry wps : Ticks}
    (e : execInit addr cfg power preset cad retry wps s = .next t) :
    t.session.mode = s.session.mode ∨ t.session.mode = .idle := by
  cases e
  split
  · exact .inl rfl
  · split
    · exact .inl rfl
    · exact .inr (by rw [respond_session, openSession, setMode_session])

/-- The second micro-step of `CLOSE` ends in `Sleep` (R225). -/
theorem execStepX_mode (e : execStepX s = .next t) : t.session.mode = .sleep := by
  obtain ⟨-, rfl⟩ := stepIf_eq_next.mp e
  simp

theorem modeCommand_modeListed (op : Byte) {m : Mode} (h : MayEnter i s m) : ModeListed i s (modeCommand op m s) :=
  .of_kept_or_mode_eq (modeCommand_mode op m s) h

/-! ### Every instruction -/

/-- The mode is written by the listed callers only, each to its own target. -/
theorem exec_modeListed (e : exec i s = .next t) : ModeListed i s t := by
  cases i with
  -- commands
  | modeIdle => cases e; exact modeCommand_modeListed _ (.inl rfl)
  | modeRx => cases e; exact modeCommand_modeListed _ rfl
  | modeTx => cases e; exact modeCommand_modeListed _ (.inl rfl)
  | sleep => cases e; exact modeCommand_modeListed _ (.inl rfl)
  | init => exact .of_kept_or_mode_eq (execInit_mode e) (.inr (.inr (.inr (.inr ⟨_, _, _, _, _, _, _, rfl⟩))))
  | stepX => exact .of_mode_eq (execStepX_mode e) (.inr rfl)
  | send => exact .inl (execSend_mode_eq e)
  | sendw => exact .inl (execSendw_mode_eq e)
  | waitsent | close => cases e; exact .inl (accept_mode_eq rfl)
  | setcb => exact .inl (execSetcb_mode_eq e)
  | encode => exact .inl (execEncode_mode_eq e)
  | decode => exact .inl (execDecode_mode_eq e)
  | illegal => cases e; exact .inl rfl
  -- events
  | evTick => cases e; exact .inl rfl
  | evTxdone | evCaddone => obtain ⟨-, rfl⟩ := stepIf_eq_next.mp e; exact .inl rfl
  | evRxdone => exact .inl (execEvRxdone_cases e).mode_eq
  -- the caller sequencer
  | stepC =>
    obtain h | ⟨p, hp, hg⟩ := execStepC_cases e
    · exact .inl h.mode_eq
    · exact hg.modeListed (fun hc => .inr (.inl ⟨rfl, hc ▸ hp⟩)) (fun ht => .inr (.inr (.inl ⟨rfl, ht ▸ hp⟩)))
  | cAfterSend => exact .inl (execCAfterSend_cases e).mode_eq
  | cAfterSendw => exact .inl (execCAfterSendw_cases e).mode_eq
  | wWait => exact .inl (execWWait_cases e).mode_eq
  | sWait => exact .inl (execSWait_cases e).mode_eq
  -- the handler
  | stepH =>
    obtain h | ⟨p, hp, hg⟩ := execStepH_cases e
    · exact h.modeListed fun hs => .inr (.inr (.inr (.inl ⟨rfl, hs⟩)))
    · exact hg.modeListed (fun hc => .inr (.inr ⟨rfl, hc ▸ hp⟩)) (fun ht => .inr (.inr (.inr ⟨rfl, ht ▸ hp⟩)))
  | hSent => exact (execHSent_cases e).modeListed fun _ => .inr (.inl rfl)
  | irqSent => exact (execIrqSent_cases e).modeListed fun _ => .inr (.inr (.inl rfl))
  | hIdle => exact (execHIdle_cases e).modeListed_of_selected .idle e (exec_selectH_notSelected · nofun) nofun
  | hFlags => exact (execHFlags_cases e).modeListed_of_selected .flags e (exec_selectH_notSelected · nofun) nofun
  | hRead => exact (execHRead_cases e).modeListed_of_selected .read e (exec_selectH_notSelected · nofun) nofun
  | hFilter => exact (execHFilter_cases e).modeListed_of_selected .filter e (exec_selectH_notSelected · nofun) nofun
  | hDeliver => exact (execHDeliver_cases e).modeListed_of_selected .deliver e (exec_selectH_notSelected · nofun) nofun
  | irqRecv =>
    exact (execIrqRecv_cases e).modeListed_of_selected .read e (fun h => exec_irqRecv_notSelected (.inl h)) nofun
  | frameAck =>
    exact (execFrameAck_cases e).modeListed_of_selected .filter e (exec_frameAck_notSelected · ..) nofun
  | frameDataBcast =>
    exact (execFrameDataBcast_cases e).modeListed_of_selected .filter e (exec_frameDataBcast_notSelected · ..) nofun
  | frameDataUcast =>
    exact (execFrameDataUcast_cases e).modeListed_of_selected .filter e (exec_frameDataUcast_notSelected · ..) nofun
  -- the gate
  | gCad a => exact (stepGate_cases (p := .cad) e).modeListed (fun _ => .inl ⟨a, rfl⟩) nofun
  | gTrig a => exact (stepGate_cases (p := .trig) e).modeListed nofun fun _ => .inr (.inl ⟨a, rfl⟩)
  | irqCad => exact (execIrqCad_cases e).modeListed nofun nofun
  | gStart => exact (stepGate_cases (p := .start) e).modeListed nofun nofun
  | gPoll => exact (stepGate_cases (p := .poll) e).modeListed nofun nofun
  | gBusy => exact (stepGate_cases (p := .busy) e).modeListed nofun nofun
  | gBackoff => exact (stepGate_cases (p := .backoff) e).modeListed nofun nofun
  | gFifo => exact (stepGate_cases (p := .fifo) e).modeListed nofun nofun

end RadioMode

/-! ### The statements -/

/-- Settles O57: `exec_modeListed`, read off at the mode of the next state. -/
theorem modeChangesOnlyAsListed : Obligations.ModeChangesOnlyAsListed := by
  intro i s t e
  obtain hkept | h := exec_modeListed e
  · exact .inl hkept
  right
  generalize t.session.mode = m at h ⊢
  cases m with
  | idle => exact .inl ⟨rfl, h⟩
  | receiving => exact .inr (.inl ⟨rfl, h⟩)
  | sleep => exact .inr (.inr (.inl ⟨rfl, h⟩))
  | channelListen => exact .inr (.inr (.inr (.inl ⟨rfl, h⟩)))
  | transmitting => exact .inr (.inr (.inr (.inr ⟨rfl, h⟩)))

/-- Settles O12: none of the three targets starts anything on entry. -/
theorem modeCommandsReachTheirTarget : Obligations.ModeCommandsReachTheirTarget := by
  intro s ho
  exact
    ⟨congrArg _ (modeCommand_of_no_entry opModeIdle (m := .idle) ho nofun nofun),
      congrArg _ (modeCommand_of_no_entry opModeRx (m := .receiving) ho nofun nofun),
      congrArg _ (modeCommand_of_no_entry opSleep (m := .sleep) ho nofun nofun)⟩

/-- Settles O13: the entry of `Transmitting` is the trigger; a drawn string fits the FIFO. -/
theorem modeTxTriggersTheFifo : Obligations.ModeTxTriggersTheFifo := by
  refine fun s ho => ⟨?_, freeString_length _⟩
  rw [exec, execModeTx, modeCommand_open _ _ ho, setMode_transmitting]
  rfl

end Sys2Proof.Machine
end

section
/-! The Interrupt Bridge (42_interrupt_bridge.md): the entry, what each of the two served conditions does as one record
update, what the filter answers at each of its tests, and the delivery. -/

namespace Sys2Proof.Machine

open Sys2Proof

section Bridge

variable {s : State} {hd : Header} {p : Bytes}

/-! ### The entry (R160) -/

theorem exec_hIdle_of_edge (hp : s.h.seq = .idle) (he : s.radio.irqPend = true) (ho : s.session.isOpen = true) :
    exec .hIdle s = .next (enterHandler s) := by
  have hon : (s.radio.irqPend && s.session.isOpen) = true := Bool.and_eq_true_iff.mpr ⟨he, ho⟩
  calc exec .hIdle s
      = stepIf (s.radio.irqPend && s.session.isOpen) .hold (enterHandler s) := if_neg (not_not_intro hp)
    _ = .next (enterHandler s) := stepIf_of_true hon

/-- Inside an invocation the row is not selected; in `H_IDLE` the handler holds. -/
theorem exec_hIdle_refused (h : s.h.seq ≠ .idle ∨ s.radio.irqPend = false ∨ s.session.isOpen = false) :
    ∃ r, exec .hIdle s = .refused r := by
  by_cases hp : s.h.seq = .idle
  · exact ⟨.hold, exec_hIdle_hold hp (h.resolve_left (not_not_intro hp))⟩
  · exact ⟨.notSelected, exec_selectH_notSelected (q := .idle) hp nofun⟩

/-! ### The two served conditions (R163, R164, R243) -/

/-- The packet-sent arm as one record update: `Idle` is a mode whose entry starts nothing. -/
theorem servePacketSent_eq (s : State) :
    servePacketSent s =
      { s with
        session := { s.session with mode := .idle, txDone := true }
        radio :=
          { s.radio with
            irqf := { s.radio.irqf with txDone := false }
            txInflight := false
            cadInflight := false }
        h := { s.h with seq := if s.h.rxf = true then .read else .idle }
        port := s.port ++ [.clearTxDone, .writeMode .idle] } := by
  rw [servePacketSent, setMode_of_no_entry (m := .idle) nofun nofun]
  simp [setHPhase, setTxDone]

theorem exec_hSent_of_phase (hp : s.h.seq = .sent) : exec .hSent s = .next (servePacketSent s) := stepIf_decide_of hp

theorem exec_irqSent_of_phase (hf : s.radio.irqf.txDone = true) (hp : s.h.seq = .sent) :
    exec .irqSent s = .next (servePacketSent s) :=
  stepIf_of_true (Bool.and_eq_true_iff.mpr ⟨hf, decide_eq_true hp⟩)

/-- `FifoRead` takes a draw where the FIFO does not hold the deposited frame's bytes (R64, R66). -/
theorem fifoReadState_draws (n : Nat) (s : State) :
    (fifoReadState n s).draws =
      if s.radio.fifoSrc = .rx ∧ n ≤ s.radio.fifo.length then s.draws else s.draws + 1 := by
  simp only [fifoReadState, fifoReadable, decide_eq_true_eq, access_draws]
  split <;> rfl

theorem fifoReadBytes_eq (n : Nat) (s : State) :
    fifoReadBytes n s =
      if s.radio.fifoSrc = .rx ∧ n ≤ s.radio.fifo.length then s.radio.fifo.take n else freeBytes s.draws n := by
  simp only [fifoReadBytes, fifoReadable, decide_eq_true_eq]

theorem servePacketReceived_port (s : State) :
    (servePacketReceived s).port =
      s.port ++ [.clearRxDone, .readRxNb, .fifoRead s.radio.rxNb.toNat, .readClearCrc, .readRssi, .readSnr] := by
  dsimp only [servePacketReceived, captureFrame]
  rw [fifoReadState_eq]
  simp

theorem servePacketReceived_draws (s : State) :
    (servePacketReceived s).draws =
      if s.radio.fifoSrc = .rx ∧ s.radio.rxNb.toNat ≤ s.radio.fifo.length then s.draws else s.draws + 1 :=
  fifoReadState_draws s.radio.rxNb.toNat (access .readRxNb (clearRxDoneFlag s))

theorem exec_hRead_of_phase (hp : s.h.seq = .read) : exec .hRead s = .next (servePacketReceived s) :=
  stepIf_decide_of hp

theorem exec_irqRecv_of_phase (hf : s.radio.irqf.rxDone = true) (hp : s.h.seq = .read) :
    exec .irqRecv s = .next (servePacketReceived s) :=
  stepIf_of_true (Bool.and_eq_true_iff.mpr ⟨hf, decide_eq_true hp⟩)

/-! ### The filter (R165 to R167) -/

theorem exec_hFilter_of_bad_crc (hp : s.h.seq = .filter) (hc : s.h.crc = false) :
    exec .hFilter s = .next (leaveHandler s) := by
  simp [exec, execHFilter, hp, hc, dropFrame]

theorem exec_hFilter_of_short_len (hp : s.h.seq = .filter) (hl : s.h.len.toNat < 4) :
    exec .hFilter s = .next (leaveHandler s) := by
  simp [exec, execHFilter, hp, hl, dropFrame]

theorem exec_hFilter_of_short_buf (hp : s.h.seq = .filter) (hb : s.h.buf.length < 4) :
    exec .hFilter s = .next (leaveHandler s) := by
  simp [exec, execHFilter, hp, splitHeader_of_short hb, dropFrame]

/-- Past the CRC and length tests the address decides. -/
theorem exec_hFilter_of_frame (hp : s.h.seq = .filter) (hc : s.h.crc = true) (hl : 4 ≤ s.h.len.toNat)
    (hb : s.h.buf = headerBytes hd ++ p) :
    exec .hFilter s = if addressed hd.dst s then dispatchFrame hd p s else .next (leaveHandler s) := by
  simp [exec, execHFilter, hp, hc, Nat.not_lt.mpr hl, hb, dropFrame]

theorem addressed_iff_head? (hb : s.h.buf = headerBytes hd ++ p) :
    addressed hd.dst s = true ↔ s.h.buf.head? = some s.session.thisAddr ∨ s.h.buf.head? = some 255 := by
  simp [addressed, hb, headerBytes]

/-- The filter runs the row the decoder reads off the same bytes (R93, R188). -/
theorem exec_frameInstr (hd : Header) (p : Bytes) (s : State) :
    exec (frameInstr s.params hd p) s = dispatchFrame hd p s := by
  unfold frameInstr dispatchFrame
  cases classOf s.params hd <;> rfl

/-- Bytes that decode to a frame row are a header and a payload, and the row is their class's. -/
theorem exists_frameInstr_of_decode {par : Params} {b : Bytes} {i : Instr} (h : decode par (.frame b) = some i) :
    ∃ hd p, b = headerBytes hd ++ p ∧ i = frameInstr par hd p := by
  have hlong : ¬ b.length < 4 := fun hb => by simp [decode_frame_of_short hb] at h
  obtain ⟨hd, p, rfl⟩ := exists_eq_headerBytes_append hlong
  exact ⟨hd, p, rfl, (Option.some.inj h).symm⟩

end Bridge

/-! ### The statements -/

/-- Settles O30: the entry, and the refusals for all other states. -/
theorem interruptEntry : Obligations.InterruptEntry := by
  refine fun s => ⟨exec_hIdle_of_edge, fun h t e => ?_⟩
  obtain ⟨r, hr⟩ := exec_hIdle_refused h
  rw [hr] at e
  cases e

/-- Settles O31: `armOf` is the order of the statement. -/
theorem flagsSnapshot : Obligations.FlagsSnapshot := fun _ hp => stepIf_decide_of hp

/-- Settles O32: the phase row and the condition's row are both the packet-sent arm. -/
theorem packetSentServed : Obligations.PacketSentServed := fun s hp =>
  ⟨(exec_hSent_of_phase hp).trans (congrArg _ (servePacketSent_eq s)),
    fun hf => ⟨servePacketSent s, exec_irqSent_of_phase hf hp, exec_hSent_of_phase hp⟩⟩

/-- Settles O33: the phase row and the condition's row are both the packet-received arm; clearing the flag first leaves
the FIFO and the draw count that `FifoRead` sees. -/
theorem packetReceivedServed : Obligations.PacketReceivedServed := by
  refine fun s hp => ⟨?_, fun hf => ⟨servePacketReceived s, exec_irqRecv_of_phase hf hp, exec_hRead_of_phase hp⟩⟩
  rw [exec_hRead_of_phase hp, servePacketReceived_eq, servePacketReceived_port, servePacketReceived_draws,
    fifoReadBytes_eq]
  rfl

/-- Settles O34: each test that fails ends the invocation; the address test is reached with a header to read. -/
theorem filterDropsSilently : Obligations.FilterDropsSilently := by
  intro s hp hdrop
  change exec .hFilter s = .next (leaveHandler s)
  cases hc : s.h.crc with
  | false => exact exec_hFilter_of_bad_crc hp hc
  | true =>
    by_cases hl : s.h.len.toNat < 4
    · exact exec_hFilter_of_short_len hp hl
    by_cases hb : s.h.buf.length < 4
    · exact exec_hFilter_of_short_buf hp hb
    obtain ⟨hd, p, hbuf⟩ := exists_eq_headerBytes_append hb
    have hother : ¬ addressed hd.dst s = true := by
      rw [addressed_iff_head? hbuf, not_or]
      simpa [hc, hl, hb] using hdrop
    rw [exec_hFilter_of_frame hp hc (Nat.not_lt.mp hl) hbuf, if_neg hother]

/-- Settles O35: the filter always answers a next state, and past its tests its answer is that of the decoded row. -/
theorem filterRunsTheFrameClass : Obligations.FilterRunsTheFrameClass := by
  intro s i hp hc hl haddr hdec
  obtain ⟨hd, p, hbuf, rfl⟩ := exists_frameInstr_of_decode hdec
  have hrun : exec .hFilter s = exec (frameInstr s.params hd p) s := by
    rw [exec_hFilter_of_frame hp hc hl hbuf, if_pos ((addressed_iff_head? hbuf).mpr haddr), exec_frameInstr]
  obtain ⟨t, ht⟩ := exec_hFilter_enabled hp
  exact ⟨t, ht, hrun ▸ ht⟩

/-- Settles O36, by cases on the callback; the model's `deliveryRecord` is the record R99 lists. -/
theorem deliveryRecordAppended : Obligations.DeliveryRecord := by
  intro s hp
  have hrun : exec .hDeliver s =
      .next (leaveHandler (if s.session.cbEn then { s with deliv := s.deliv ++ [deliveryRecord s] } else s)) :=
    stepIf_decide_of hp
  rw [hrun]
  cases s.session.cbEn <;> rfl

end Sys2Proof.Machine
end

section
/-! The Reliability Layer (43_reliability.md): `Encode` and the opened payload on the cipher of the session, what an
accepted `SEND` and `SENDW` start, the exits of `C_AFTER` and `W_WAIT`, and the three rows of a received frame. -/

namespace Sys2Proof.Machine

open Sys2Proof

section Reliability

variable {s : State} {h : Header} {p f : Bytes} {dst src id flags retries : Byte}

/-! ### `Encode` on the cipher of the session (R121, R123) -/

theorem encodeFrame_of_le (hcap : 4 + p.length + padLen (sessionCipher s) p.length ≤ s.params.fifoCap) :
    encodeFrame h p s =
      some (headerBytes h ++
        if s.session.cipherEn then Config.cipher.enc (p ++ freeBytes s.draws (padLen (sessionCipher s) p.length))
        else p) := by
  rw [encodeFrame, encodeWith_of_le hcap, encodeBody_sessionCipher]

theorem encodeFrame_of_not_le (hcap : ¬ 4 + p.length + padLen (sessionCipher s) p.length ≤ s.params.fifoCap) :
    encodeFrame h p s = none :=
  encodeWith_of_not_le hcap

/-- The draw of an `Encode` as one record update. -/
theorem encodeDrawn_eq_ite (s : State) :
    encodeDrawn s = { s with draws := if s.session.cipherEn then s.draws + 1 else s.draws } := by
  rw [encodeDrawn_eq, encodeDrawn_draws]

/-! ### Acceptance of `SEND` and `SENDW` (R180, R183) -/

/-- A sequenced command finds the caller sequencer idle. -/
theorem accept_idle {op : Byte} {run : State} (ho : s.session.isOpen = true) (hi : s.c.seq = .idle) :
    accept op true s run = run :=
  accept_open ho fun _ => hi

theorem exec_send_of_some (ho : s.session.isOpen = true) (hi : s.c.seq = .idle)
    (hf : encodeFrame (ownHeader s dst id flags) p s = some f) :
    exec (.send dst id flags p) s = .next (startCaller .send f (encodeDrawn s)) := by
  rw [exec, execSend, accept_idle ho hi, hf]

theorem exec_send_of_none (ho : s.session.isOpen = true) (hi : s.c.seq = .idle)
    (hf : encodeFrame (ownHeader s dst id flags) p s = none) :
    exec (.send dst id flags p) s = .next (respond opSend .frameTooLarge [] s) := by
  rw [exec, execSend, accept_idle ho hi, hf]

theorem exec_sendw_of_some (ho : s.session.isOpen = true) (hi : s.c.seq = .idle)
    (hf : encodeFrame (ownHeader s dst (nextId s.session.lastId) flags) p s = some f) :
    exec (.sendw dst flags retries p) s =
      .next (startCaller .sendw f
        (makeRecord dst (nextId s.session.lastId) retries (useNextId (encodeDrawn s)))) := by
  rw [exec, execSendw, accept_idle ho hi, hf]

theorem exec_sendw_of_none (ho : s.session.isOpen = true) (hi : s.c.seq = .idle)
    (hf : encodeFrame (ownHeader s dst (nextId s.session.lastId) flags) p s = none) :
    exec (.sendw dst flags retries p) s = .next (respond opSendw .frameTooLarge [] s) := by
  rw [exec, execSendw, accept_idle ho hi, hf]

/-- The record of an outstanding send: none for a broadcast. -/
theorem makeRecord_session (dst id retries : Byte) (s : State) :
    (makeRecord dst id retries s).session =
      if dst = 255 then s.session
      else { s.session with pendValid := true, pendTo := dst, pendId := id, pendLeft := retries } := by
  unfold makeRecord
  split <;> rfl

/-! ### `C_AFTER` (R181, R184) -/

theorem exec_cAfterSend_of_phase (hp : s.c.seq = .after) (hop : s.c.op = .send) :
    exec .cAfterSend s = .next (setCPhase .idle (respond opSend .ok [] s)) :=
  stepIf_decide_of ⟨hp, hop⟩

theorem exec_cAfterSendw_of_broadcast (hp : s.c.seq = .after) (hop : s.c.op = .sendw)
    (hb : s.c.gate.frame.head? = some 255) :
    exec .cAfterSendw s = .next (setCPhase .idle (respond opSendw .ok [] s)) :=
  (stepIf_decide_of ⟨hp, hop⟩).trans (congrArg _ (if_pos (decide_eq_true hb)))

theorem exec_cAfterSendw_of_unicast (hp : s.c.seq = .after) (hop : s.c.op = .sendw)
    (hb : s.c.gate.frame.head? ≠ some 255) :
    exec .cAfterSendw s =
      .next (setCPhase .wWait
        { s with session := { s.session with pendDeadline := s.now + s.session.retryTimeout.toNat } }) :=
  (stepIf_decide_of ⟨hp, hop⟩).trans (congrArg _ (if_neg (mt of_decide_eq_true hb)))

/-! ### `W_WAIT` (R185) -/

/-- The signal is read before the expiry. -/
theorem exec_wWait_of_ackOk (hp : s.c.seq = .wWait) (ha : s.session.ackOk = true) :
    exec .wWait s = .next (ackArrived s) := by
  rw [exec, execWWait, if_neg (not_not_intro hp), if_pos ha]

theorem exec_wWait_of_expired (hp : s.c.seq = .wWait) (ha : s.session.ackOk = false)
    (hd : s.session.pendDeadline ≤ s.now) :
    exec .wWait s =
      .next (if s.session.isOpen = true ∧ s.session.pendLeft ≠ 0 then resend s else giveUp s) := by
  have hleft : 0 < s.session.pendLeft.toNat ↔ s.session.pendLeft ≠ 0 := by bv_omega
  rw [exec, execWWait, if_neg (not_not_intro hp), if_neg (ne_true_of_eq_false ha),
    stepIf_of_true (expired_of_le hd)]
  simp only [Bool.and_eq_true, decide_eq_true_eq, hleft]

/-! ### The rows of a received frame (R165, R167, R188) -/

/-- With no cipher every payload opens, with one those of whole blocks. -/
theorem openPayload_of_blocks (hb : ¬ (s.session.cipherEn = true ∧ p.length % Config.cipher.B ≠ 0)) :
    openPayload (sessionCipher s) p = some (if s.session.cipherEn then Config.cipher.dec p else p) := by
  cases he : s.session.cipherEn with
  | false =>
    rw [sessionCipher_of_disabled he]
    rfl
  | true =>
    rw [sessionCipher_of_enabled he]
    exact openPayload_of_mod_eq_zero (not_not.mp fun hm => hb ⟨he, hm⟩)

theorem openPayload_of_no_blocks (he : s.session.cipherEn = true) (hm : p.length % Config.cipher.B ≠ 0) :
    openPayload (sessionCipher s) p = none := by
  rw [sessionCipher_of_enabled he, openPayload_of_mod_ne_zero hm]

/-- What the three rows share: go on with the opened payload, or discard the frame with the fault bit set. -/
def openOrDrop (s : State) (p : Bytes) (next : Bytes → State) : State :=
  match openPayload (sessionCipher s) p with
  | none => cipherLengthDrop s
  | some m => next m

theorem openOrDrop_eq (s : State) (p : Bytes) (next : Bytes → State) :
    openOrDrop s p next =
      if s.session.cipherEn = true ∧ p.length % Config.cipher.B ≠ 0 then
        { s with session := { s.session with faultCipherLength := true }, h := { s.h with seq := .idle } }
      else next (if s.session.cipherEn then Config.cipher.dec p else p) := by
  split
  next hb => rw [openOrDrop, openPayload_of_no_blocks hb.1 hb.2]; rfl
  next hb => rw [openOrDrop, openPayload_of_blocks hb]

theorem exec_frameAck_of_filter (hp : s.h.seq = .filter) :
    exec (.frameAck dst src id flags p) s =
      .next (openOrDrop s p fun m => leaveHandler (ackMatch src id (keepPacket ⟨dst, src, id, flags⟩ m s))) :=
  stepIf_decide_of hp

theorem exec_frameDataBcast_of_filter (hp : s.h.seq = .filter) :
    exec (.frameDataBcast src id flags p) s =
      .next (openOrDrop s p fun m => setHPhase .deliver (keepPacket ⟨255, src, id, flags⟩ m s)) :=
  stepIf_decide_of hp

theorem exec_frameDataUcast_of_filter (hp : s.h.seq = .filter) :
    exec (.frameDataUcast dst src id flags p) s =
      .next (openOrDrop s p fun m =>
        if s.session.ackEn then startAutoAck ⟨dst, src, id, flags⟩ (keepPacket ⟨dst, src, id, flags⟩ m s)
        else setHPhase .deliver (keepPacket ⟨dst, src, id, flags⟩ m s)) :=
  stepIf_decide_of hp

theorem ackMatches_iff :
    ackMatches src id s = true ↔
      s.session.pendValid = true ∧ src = s.session.pendTo ∧ id = s.session.pendId := by
  simp only [ackMatches, Bool.and_eq_true, decide_eq_true_eq, and_assoc]

/-- A match completes the outstanding send; without one nothing changes (R189). -/
theorem ackMatch_eq_ite (src id : Byte) (s : State) :
    ackMatch src id s =
      { s with
        session :=
          if s.session.pendValid = true ∧ src = s.session.pendTo ∧ id = s.session.pendId then
            { s.session with pendValid := false, ackOk := true }
          else s.session } := by
  simp only [ackMatch, ackMatches_iff]
  split <;> rfl

end Reliability

/-! ### The statements -/

/-- Settles O23: the frame of `Encode` on both sides of `FIFO_CAP`, started as it is or refused. -/
theorem sendStartsTheGate : Obligations.SendStartsTheGate := by
  intro s dst id flags p ho hi
  split
  next hcap =>
    rw [exec_send_of_some ho hi (encodeFrame_of_le hcap), encodeDrawn_eq_ite]
    rfl
  next hcap => exact exec_send_of_none ho hi (encodeFrame_of_not_le hcap)

/-- Settles O24: as for `SEND`, with the counter's next value in the header; only the record depends on the
destination. -/
theorem sendwStartsTheGate : Obligations.SendwStartsTheGate := by
  intro s dst flags retries p ho hi
  split
  next hcap =>
    rw [exec_sendw_of_some ho hi (encodeFrame_of_le hcap), makeRecord_eq, makeRecord_session, encodeDrawn_eq_ite]
    rfl
  next hcap => exact exec_sendw_of_none ho hi (encodeFrame_of_not_le hcap)

/-- Settles O25: one exit of `C_AFTER` per operation and, for `SENDW`, per destination. -/
theorem afterTheTrigger : Obligations.AfterTheTrigger := fun _ hp =>
  ⟨exec_cAfterSend_of_phase hp, exec_cAfterSendw_of_broadcast hp, exec_cAfterSendw_of_unicast hp⟩

/-- Settles O26: the signal, the two exits at the deadline, and the hold. -/
theorem wWaitDecides : Obligations.WWaitDecides := by
  refine fun s hp => ⟨exec_wWait_of_ackOk hp, fun ha hd ho hl => ?_, fun ha hd hend => ?_, fun ha hd t e => ?_⟩
  · rw [exec_wWait_of_expired hp ha hd, if_pos ⟨ho, hl⟩]
    rfl
  · have hno : ¬ (s.session.isOpen = true ∧ s.session.pendLeft ≠ 0) := by
      rintro ⟨ho, hl⟩
      exact hend.elim (ne_false_of_eq_true ho) hl
    rw [exec_wWait_of_expired hp ha hd, if_neg hno]
    rfl
  · rw [exec_wWait_hold hp ha hd] at e
    cases e

/-- Settles O27: keeping the packet leaves the registers that the match reads. -/
theorem ackFramesAreMatchedAndConsumed : Obligations.AckFramesAreMatchedAndConsumed := by
  intro s dst src id flags p hp
  rw [exec_frameAck_of_filter hp, openOrDrop_eq, ackMatch_eq_ite]
  rfl

/-- Settles O28: the row adds nothing to what the three share but the phase. -/
theorem broadcastFramesAreDelivered : Obligations.BroadcastFramesAreDelivered := by
  intro s src id flags p hp
  rw [exec_frameDataBcast_of_filter hp, openOrDrop_eq]
  rfl

/-- Settles O29: the auto-ACK encodes an empty payload, so its frame is the header and cannot be refused. -/
theorem unicastFramesAreAcknowledged : Obligations.UnicastFramesAreAcknowledged := by
  intro s dst src id flags p hp
  rw [exec_frameDataUcast_of_filter hp, openOrDrop_eq, startAutoAck_eq, encodeDrawn_draws]
  rfl

end Sys2Proof.Machine
end

section
/-! The Channel Access Controller (44_channel_access.md): what a gate phase answers, one lemma per exit, each for either
sequencer and in the terms of the gate's registers. The statements, which write the next state out for each sequencer,
read those lemmas at that sequencer's own registers. -/

namespace Sys2Proof.Machine

open Sys2Proof

section Gate

variable {s : State} {a : Sequencer} {p : GatePhase}

/-! ### The step records in a gate phase (R100, R112) -/

theorem exec_stepC_of_gate (hp : s.c.seq = .gate p) : exec .stepC s = exec (gateInstr .c p) s :=
  exec_stepC_of_select (congrArg (selectC · s.c.op) hp)

theorem exec_stepH_of_gate (hp : s.h.seq = .gate p) : exec .stepH s = exec (gateInstr .h p) s := by
  rw [exec_stepH_eq_select, hp]
  rfl

/-! ### `G_START` (R201) -/

theorem exec_gStart_of_gate (hg : inGate a .start s = true) :
    exec (.gStart a) s = .next (setGatePhase a .cad (setGateRegs a { gateRegs a s with t0 := s.now } s)) :=
  stepIf_of_true hg

/-! ### `G_CAD` (R141, R202) -/

/-- Entering `ChannelListen` cancels a transmission and starts a detection with no report standing. -/
theorem setMode_channelListen (s : State) :
    setMode .channelListen s =
      { s with
        session := { s.session with mode := .channelListen }
        radio :=
          { s.radio with
            irqf := { s.radio.irqf with cadDone := false, cadDetected := false }
            txInflight := false
            cadInflight := true }
        port := s.port ++ [.clearCad, .writeMode .channelListen] } := by
  simp [setMode, enterMode, cancelInflight, startDetection, clearCadFlags, setIrqf, access]

theorem exec_gCad_of_gate (hg : inGate a .cad s = true) :
    exec (.gCad a) s =
      .next (setGatePhase a .poll
        (setGateRegs a { gateRegs a s with wdl := s.now + Config.cadWindow } (setMode .channelListen s))) :=
  stepIf_of_true hg

/-! ### `G_POLL` (R203, R243) -/

/-- A report as one record update of the registers that both sequencers share. -/
theorem takeReport_eq (a : Sequencer) (s : State) :
    takeReport a s =
      setGatePhase a (if s.radio.irqf.cadDetected = true then .busy else .fifo)
        { s with
          radio := { s.radio with irqf := { s.radio.irqf with cadDone := false, cadDetected := false } }
          port := s.port ++ [.readIrqf, .clearCad] } := by
  simp [takeReport, afterReport, clearCadFlags, setIrqf, access]

theorem exec_gPoll_of_report (hg : inGate a .poll s = true) (hr : s.radio.irqf.cadDone = true) :
    exec (.gPoll a) s = .next (takeReport a s) := by
  rw [exec, execGPoll, hg, hr]
  rfl

/-- The condition's row is the same service as the phase's. -/
theorem exec_irqCad_of_report (hg : inGate a .poll s = true) (hr : s.radio.irqf.cadDone = true) :
    exec (.irqCad a) s = .next (takeReport a s) :=
  stepIf_of_true (Bool.and_eq_true_iff.mpr ⟨hr, hg⟩)

theorem exec_gPoll_of_windowEnd (hg : inGate a .poll s = true) (hr : s.radio.irqf.cadDone = false)
    (hd : (gateRegs a s).wdl ≤ s.now) : exec (.gPoll a) s = .next (setGatePhase a .fifo (access .readIrqf s)) := by
  rw [exec, execGPoll, hg, hr]
  exact stepIf_of_true (expired_of_le hd)

/-! ### `G_BUSY` (R204, R206) -/

theorem gateBoundReached_iff :
    gateBoundReached a s = true ↔ s.session.cadTimeout.toNat ≤ s.now - (gateRegs a s).t0 :=
  decide_eq_true_iff

theorem exec_gBusy_of_bound (hg : inGate a .busy s = true)
    (hb : s.session.cadTimeout.toNat ≤ s.now - (gateRegs a s).t0) :
    exec (.gBusy a) s = .next (setGatePhase a .fifo s) := by
  rw [exec, execGBusy, stepIf_of_true hg, if_pos (gateBoundReached_iff.mpr hb)]

theorem exec_gBusy_of_backOff (hg : inGate a .busy s = true)
    (hb : s.now - (gateRegs a s).t0 < s.session.cadTimeout.toNat) :
    exec (.gBusy a) s =
      .next (drawn (setGatePhase a .backoff
        (setGateRegs a { gateRegs a s with bdl := s.now + freeInterval s.draws } s))) := by
  rw [exec, execGBusy, stepIf_of_true hg, if_neg (mt gateBoundReached_iff.mp (Nat.not_le.mpr hb))]

/-! ### `G_BACKOFF` (R205) -/

theorem exec_gBackoff_of_deadline (hg : inGate a .backoff s = true) (hd : (gateRegs a s).bdl ≤ s.now) :
    exec (.gBackoff a) s = .next (setGatePhase a .cad s) := by
  rw [exec, execGBackoff, hg]
  exact stepIf_of_true (expired_of_le hd)

theorem exec_gBackoff_ne_next (hg : inGate a .backoff s = true) (hd : s.now < (gateRegs a s).bdl) (t : State) :
    exec (.gBackoff a) s ≠ .next t := by
  rw [exec_gBackoff_hold hg hd]
  nofun

/-! ### `G_FIFO` (R64, R66, R207) -/

/-- `FifoWrite` written out: only a transmission in flight takes a draw. -/
theorem fifoWrite_eq_ite (b : Bytes) (s : State) :
    fifoWrite b s =
      { s with
        radio :=
          { s.radio with
            fifo := b
            fifoSrc := .tx
            txBytes := if s.radio.txInflight = true then freeString s.draws else s.radio.txBytes }
        port := s.port ++ [.fifoWrite b]
        draws := if s.radio.txInflight = true then s.draws + 1 else s.draws } := by
  obtain ⟨-, -, hidle, hbusy, -⟩ := fifoWrite_spec b s
  rw [fifoWrite_eq]
  split
  next h => rw [(hbusy h).1, (hbusy h).2]
  next h =>
    have hoff := Bool.eq_false_iff.mpr h
    rw [(hidle hoff).1, (hidle hoff).2]

theorem exec_gFifo_of_frameSized (hg : inGate a .fifo s = true) (hf : frameSized s.params (gateRegs a s).frame) :
    exec (.gFifo a) s = .next (setGatePhase a .trig (fifoWrite (gateRegs a s).frame s)) := by
  rw [exec, execGFifo, hg, if_pos (fifoWritable_of_frameSized hf)]
  rfl

/-! ### `G_TRIG` (R208) -/

theorem exec_gTrig_of_gate (hg : inGate a .trig s = true) :
    exec (.gTrig a) s = .next (leaveGate a (setMode .transmitting s)) :=
  stepIf_of_true hg

end Gate

/-! ### The statements -/

/-- Settles O37: the step record of a sequencer in `G_START` selects the phase's row. -/
theorem gateTakesItsStartTime : Obligations.GateTakesItsStartTime := by
  refine fun s => ⟨fun hp => ?_, fun hp => ?_⟩
  · have hrun := exec_gStart_of_gate (inGate_c_iff.mpr hp)
    exact ⟨_, hrun, (exec_stepC_of_gate hp).trans hrun, rfl⟩
  · have hrun := exec_gStart_of_gate (inGate_h_iff.mpr hp)
    exact ⟨_, hrun, (exec_stepH_of_gate hp).trans hrun, rfl⟩

/-- Settles O38: the entry of `ChannelListen` leaves the gate's registers, of which only `WDL` is then written. -/
theorem gateStartsADetection : Obligations.GateStartsADetection := by
  refine fun s => ⟨fun hp => ?_, fun hp => ?_⟩
  · rw [exec_gCad_of_gate (inGate_c_iff.mpr hp), setMode_channelListen]
    rfl
  · rw [exec_gCad_of_gate (inGate_h_iff.mpr hp), setMode_channelListen]
    rfl

/-- Settles O39: the report, the end of the window, and the hold, for each sequencer. -/
theorem gatePollsTheReport : Obligations.GatePollsTheReport := fun s =>
  ⟨fun hp =>
    have hg := inGate_c_iff.mpr hp
    ⟨fun hr =>
      ⟨(exec_gPoll_of_report hg hr).trans (congrArg _ (takeReport_eq .c s)),
        takeReport .c s, exec_irqCad_of_report hg hr, exec_gPoll_of_report hg hr⟩,
      exec_gPoll_of_windowEnd hg, exec_gPoll_hold hg⟩,
  fun hp =>
    have hg := inGate_h_iff.mpr hp
    ⟨fun hr =>
      ⟨(exec_gPoll_of_report hg hr).trans (congrArg _ (takeReport_eq .h s)),
        takeReport .h s, exec_irqCad_of_report hg hr, exec_gPoll_of_report hg hr⟩,
      exec_gPoll_of_windowEnd hg, exec_gPoll_hold hg⟩⟩

/-- Settles O40: the interval drawn before the bound is one that R206 allows. -/
theorem gateBacksOffUntilTheBound : Obligations.GateBacksOffUntilTheBound := fun s =>
  ⟨fun hp =>
    have hg := inGate_c_iff.mpr hp
    ⟨exec_gBusy_of_bound hg, fun hb => ⟨freeInterval s.draws, freeInterval_le _, exec_gBusy_of_backOff hg hb⟩⟩,
  fun hp =>
    have hg := inGate_h_iff.mpr hp
    ⟨exec_gBusy_of_bound hg, fun hb => ⟨freeInterval s.draws, freeInterval_le _, exec_gBusy_of_backOff hg hb⟩⟩⟩

/-- Settles O41: the deadline ends the wait, and before it the phase holds. -/
theorem gateDetectsAgain : Obligations.GateDetectsAgain := fun _ =>
  ⟨fun hp =>
    have hg := inGate_c_iff.mpr hp
    ⟨exec_gBackoff_of_deadline hg, exec_gBackoff_ne_next hg⟩,
  fun hp =>
    have hg := inGate_h_iff.mpr hp
    ⟨exec_gBackoff_of_deadline hg, exec_gBackoff_ne_next hg⟩⟩

/-- Settles O42: a frame of these sizes is one that `FifoWrite` is given for. -/
theorem gateStagesItsFrame : Obligations.GateStagesItsFrame := by
  refine fun s => ⟨fun hp hlo hhi => ?_, fun hp hlo hhi => ?_⟩
  · have hrun := exec_gFifo_of_frameSized (inGate_c_iff.mpr hp) ⟨hlo, hhi⟩
    rw [fifoWrite_eq_ite] at hrun
    exact ⟨_, hrun, rfl, fun _ => rfl⟩
  · have hrun := exec_gFifo_of_frameSized (inGate_h_iff.mpr hp) ⟨hlo, hhi⟩
    rw [fifoWrite_eq_ite] at hrun
    exact ⟨_, hrun, rfl, fun _ => rfl⟩

/-- Settles O43: the entry of `Transmitting` is the trigger, and the sequencer goes on to its own continuation. -/
theorem gateTriggers : Obligations.GateTriggers := by
  refine fun s => ⟨fun hp => ?_, fun hp => ?_⟩
  · rw [exec_gTrig_of_gate (inGate_c_iff.mpr hp), setMode_transmitting]
    rfl
  · rw [exec_gTrig_of_gate (inGate_h_iff.mpr hp), setMode_transmitting]
    rfl

end Sys2Proof.Machine
end

section
/-! Session control (45_session_control.md): `INIT`, `SETCB`, the two micro-steps of `CLOSE` and `WAITSENT`, one
equation per answer; and the configuration registers, which every instruction but `INIT` keeps (R222). -/

namespace Sys2Proof.Machine

open Sys2Proof

section SessionControl

variable {s t : State} {i : Instr} {addr cfg power preset en : Byte} {cad retry wps : Ticks}

/-! ### `INIT` (R45, R102, R220) -/

/-- The six reserved bits are 0 exactly below 4. -/
theorem cfgReserved_eq_zero_iff : cfgReserved cfg = 0 ↔ cfg.toNat < 4 := by
  have hquot : cfgReserved cfg = 0 ↔ cfg.toNat / 4 = 0 := by
    simp [cfgReserved, ← BitVec.toNat_inj, Nat.shiftRight_eq_div_pow]
  rw [hquot, Nat.div_eq_zero_iff_lt (by decide)]

theorem initIllegal_eq_false_iff :
    initIllegal addr cfg = false ↔
      addr ≠ 255 ∧ cfg.toNat < 4 ∧ (cfg.getLsbD 1 = true → Config.cipherPresent = true) := by
  simp only [initIllegal, cfgCipher, Bool.or_eq_false_iff, decide_eq_false_iff_not, not_not, cfgReserved_eq_zero_iff,
    Bool.and_eq_false_imp, Bool.not_eq_false', and_assoc, ne_eq]

theorem initBusy_eq_false_iff :
    initBusy s = false ↔
      s.session.isOpen = false ∧ s.session.closing = false ∧ s.c.seq = .idle ∧ s.h.seq = .idle := by
  simp [initBusy, and_assoc]

/-- An accepted `INIT` as one record update: `Idle` is a mode whose entry starts nothing. -/
theorem openSession_eq (addr cfg power preset : Byte) (cad retry wps : Ticks) (s : State) :
    openSession addr cfg power preset cad retry wps s =
      { s with
        session := { initSession addr cfg power preset cad retry wps s.draws s.session with mode := .idle }
        radio := initRadio s.draws
        port := s.port ++ [.assertReset, .configurePreset preset power, .writeMode .idle]
        draws := s.draws + 2 } := by
  rw [openSession, setMode_of_no_entry (m := .idle) nofun nofun]
  simp [access, initRadio]

theorem exec_init_of_legal (hl : initIllegal addr cfg = false) (hb : initBusy s = false) :
    exec (.init addr cfg power preset cad retry wps) s =
      .next (respond opInit .ok [] (openSession addr cfg power preset cad retry wps s)) := by
  rw [exec, execInit, hl, hb]
  rfl

/-- A next state of `INIT` is a refusal or the new session. -/
theorem exec_init_cases (e : exec (.init addr cfg power preset cad retry wps) s = .next t) :
    (∃ code, t = respond opInit code [] s) ∨
      t = respond opInit .ok [] (openSession addr cfg power preset cad retry wps s) := by
  cases e
  split
  · exact .inl ⟨_, rfl⟩
  · split
    · exact .inl ⟨_, rfl⟩
    · exact .inr rfl

/-! ### `SETCB` (R102, R223) -/

theorem exec_setcb_of_illegal (h : 1 < en.toNat) :
    exec (.setcb en) s = .next (respond opSetcb .illegalCommand [] s) := by
  rw [exec, execSetcb, setcbIllegal, if_pos (decide_eq_true h)]

/-- A legal operand leaves the acceptance test. -/
theorem exec_setcb_of_legal (h : en.toNat ≤ 1) :
    exec (.setcb en) s =
      .next (accept opSetcb false s
        (respond opSetcb .ok [] { s with session := { s.session with cbEn := decide (en ≠ 0) } })) := by
  rw [exec, execSetcb, setcbIllegal, decide_eq_false (Nat.not_lt.mpr h)]
  rfl

theorem exec_setcb_open (ho : s.session.isOpen = true) (h : en.toNat ≤ 1) :
    exec (.setcb en) s =
      .next { s with session := { s.session with cbEn := decide (en ≠ 0) }, resp := s.resp ++ [[0x09, 0x00]] } := by
  rw [exec_setcb_of_legal h, accept_unsequenced ho]
  rfl

theorem exec_setcb_closed (ho : s.session.isOpen = false) (h : en.toNat ≤ 1) :
    exec (.setcb en) s = .next (respond opSetcb .closed [] s) := by
  rw [exec_setcb_of_legal h, accept_closed ho]

/-! ### `CLOSE` and `STEP.X` (R224, R225) -/

theorem exec_close_open (ho : s.session.isOpen = true) :
    exec .close s =
      .next
        { s with
          session := { s.session with isOpen := false, closing := true }
          radio := { s.radio with irqPend := false } } := by
  rw [exec, execClose, accept_unsequenced ho]

theorem exec_close_closed (ho : s.session.isOpen = false) : exec .close s = .next (respond opClose .closed [] s) := by
  rw [exec, execClose, accept_closed ho]

theorem closeReady_eq_true_iff :
    closeReady s = true ↔
      s.session.closing = true ∧ s.h.seq = .idle ∧ (s.c.seq = .idle ∨ s.c.seq = .wWait ∨ s.c.seq = .sWait) := by
  simp [closeReady, and_assoc]

/-- The release as one record update: `Sleep` is a mode whose entry starts nothing. -/
theorem exec_stepX_of_ready (h : closeReady s = true) :
    exec .stepX s =
      .next
        { s with
          session := { s.session with mode := .sleep, closing := false }
          radio := { s.radio with txInflight := false, cadInflight := false }
          port := s.port ++ [.writeMode .sleep]
          resp := s.resp ++ [[0x08, 0x00]] } := by
  rw [exec, execStepX, stepIf_of_true h, setMode_of_no_entry (m := .sleep) nofun nofun]
  rfl

/-! ### `WAITSENT` and `S_WAIT` (R227) -/

theorem accept_busy {op : Byte} {run : State} (ho : s.session.isOpen = true) (hc : s.c.seq ≠ .idle) :
    accept op true s run = respond op .busy [] s := by
  simp [accept, ho, hc]

theorem exec_waitsent_of_idle (ho : s.session.isOpen = true) (hi : s.c.seq = .idle) :
    exec .waitsent s =
      .next { s with c := { s.c with seq := .sWait, op := .waitsent, dl := s.now + s.session.wpsTimeout.toNat } } := by
  rw [exec, execWaitsent, accept_idle ho hi]

theorem exec_waitsent_closed (ho : s.session.isOpen = false) :
    exec .waitsent s = .next (respond opWaitsent .closed [] s) := by
  rw [exec, execWaitsent, accept_closed ho]

theorem exec_waitsent_busy (ho : s.session.isOpen = true) (hc : s.c.seq ≠ .idle) :
    exec .waitsent s = .next (respond opWaitsent .busy [] s) := by
  rw [exec, execWaitsent, accept_busy ho hc]

/-- The signal is read before the expiry. -/
theorem exec_sWait_of_txDone (hp : s.c.seq = .sWait) (ht : s.session.txDone = true) :
    exec .sWait s = .next (setCPhase .idle (respond opWaitsent .ok [] s)) := by
  rw [exec, execSWait, if_neg (not_not_intro hp), if_pos ht]

theorem exec_sWait_of_expired (hp : s.c.seq = .sWait) (ht : s.session.txDone = false) (hd : s.c.dl ≤ s.now) :
    exec .sWait s = .next (setCPhase .idle (respond opWaitsent .transmitTimeout [] s)) := by
  rw [exec, execSWait, if_neg (not_not_intro hp), ht, stepIf_of_true (expired_of_le hd)]
  rfl

/-! ### The configuration registers (R222) -/

/-- The registers that `INIT` configures, in the order of R98: the address, the ACK mode, the cipher switch, the power,
the preset and the three timeouts. -/
def configRegs (r : Session) : Byte × Bool × Bool × Byte × Byte × Ticks × Ticks × Ticks :=
  (r.thisAddr, r.ackEn, r.cipherEn, r.txPower, r.preset, r.cadTimeout, r.retryTimeout, r.wpsTimeout)

theorem configRegs_eq_iff {r : Session} {ack cipher : Bool} :
    configRegs r = (addr, ack, cipher, power, preset, cad, retry, wps) ↔
      r.thisAddr = addr ∧ r.ackEn = ack ∧ r.cipherEn = cipher ∧ r.txPower = power ∧ r.preset = preset ∧
      r.cadTimeout = cad ∧ r.retryTimeout = retry ∧ r.wpsTimeout = wps := by
  simp only [configRegs, Prod.mk.injEq]

theorem configRegs_makeRecord (dst id retries : Byte) (s : State) :
    configRegs (makeRecord dst id retries s).session = configRegs s.session := by
  unfold makeRecord
  split <;> rfl

theorem configRegs_openSession (addr cfg power preset : Byte) (cad retry wps : Ticks) (s : State) :
    configRegs (openSession addr cfg power preset cad retry wps s).session =
      (addr, cfg.getLsbD 0, cfg.getLsbD 1, power, preset, cad, retry, wps) := by
  rw [openSession_eq]
  rfl

/-- Of the session's registers the gate writes the mode and the packet-sent signal only. -/
theorem GateStep.configRegs_eq {a : Sequencer} {p : GatePhase} (e : GateStep a s p t) :
    configRegs t.session = configRegs s.session := by
  cases e with
  | detect | trigger => simp [configRegs]
  | report => simp [takeReport]
  | start | windowEnd | boundReached | backOff | retry | stage => simp

theorem CallerStep.configRegs_eq (e : CallerStep s t) : configRegs t.session = configRegs s.session := by
  cases e <;> rfl

theorem HandlerStep.configRegs_eq (e : HandlerStep s t) : configRegs t.session = configRegs s.session := by
  cases e with
  | served => simp [servePacketSent, configRegs]
  | received => rw [servePacketReceived_eq]
  | consumed => rw [ackMatch_eq]; rfl
  | acknowledge => rw [startAutoAck_eq]; rfl
  | enter | snapshot | dropped | undecryptable | accepted | delivered | undelivered => rfl

/-- Of the commands only the accepted `INIT` writes them. -/
theorem HostStep.configRegs_eq (hi : ∀ a b c d e f g, i ≠ .init a b c d e f g) (e : HostStep s i t) :
    configRegs t.session = configRegs s.session := by
  cases e with
  | opened => exact (hi _ _ _ _ _ _ _ rfl).elim
  | modeSet | closeEnded => simp [configRegs]
  | encoded | sendStarted => simp
  | sendwStarted =>
    rw [startCaller_session, configRegs_makeRecord, useNextId_session, encodeDrawn_session]
    rfl
  | answered | waitStarted | callbackSet | closeBegun => rfl

theorem EnvStep.configRegs_eq (e : EnvStep s i t) : configRegs t.session = configRegs s.session := by
  cases e <;> rfl

theorem exec_configRegs_eq (hi : ∀ a b c d e f g, i ≠ .init a b c d e f g) (e : exec i s = .next t) :
    configRegs t.session = configRegs s.session := by
  cases exec_cases e with
  | host e => exact e.configRegs_eq hi
  | env e => exact e.configRegs_eq
  | caller e => exact e.configRegs_eq
  | handler e => exact e.configRegs_eq
  | gate _ e => exact e.configRegs_eq

end SessionControl

/-! ### The statements -/

/-- Settles O56: no agent's micro-step writes them but the accepted `INIT`, which writes its operands. -/
theorem onlyInitConfigures : Obligations.OnlyInitConfigures := by
  refine ⟨fun i s t hi e => configRegs_eq_iff.mp (exec_configRegs_eq hi e), ?_⟩
  intro addr cfg power preset cad retry wps s t e
  obtain ⟨code, rfl⟩ | rfl := exec_init_cases e
  · exact .inl rfl
  · exact .inr (configRegs_eq_iff.mp (configRegs_openSession ..))

/-- Settles O14: the operands pass the test of R102 and nothing is active, so `INIT` is accepted. -/
theorem initMakesASession : Obligations.InitMakesASession := by
  intro s addr cfg power preset cad retry wps haddr hcfg hcipher ho hcl hc hh
  have hrun := exec_init_of_legal (power := power) (preset := preset) (cad := cad) (retry := retry) (wps := wps)
    (initIllegal_eq_false_iff.mpr ⟨haddr, hcfg, hcipher⟩) (initBusy_eq_false_iff.mpr ⟨ho, hcl, hc, hh⟩)
  rw [openSession_eq] at hrun
  exact ⟨_, hrun, rfl, rfl, rfl, rfl, rfl, rfl, rfl, rfl, rfl, rfl, rfl⟩

/-- Settles O16: the illegal operand is refused first; of the legal ones the session decides, and 0 and 1 are legal. -/
theorem setcbWritesTheEnable : Obligations.SetcbWritesTheEnable := by
  refine fun s en => ⟨?disable, ?enable, exec_setcb_of_illegal, exec_setcb_closed⟩
  case disable =>
    rintro ho rfl
    exact exec_setcb_open ho (by decide)
  case enable =>
    rintro ho rfl
    exact exec_setcb_open ho (by decide)

/-- Settles O17: `CLOSE` is not sequenced, so only the session decides. -/
theorem closeDisarms : Obligations.CloseDisarms := fun _ => ⟨exec_close_open, exec_close_closed⟩

/-- Settles O18: the two clauses are `closeReady` true and false. -/
theorem closeReleases : Obligations.CloseReleases := fun _ =>
  ⟨fun hcl hh hc => exec_stepX_of_ready (closeReady_eq_true_iff.mpr ⟨hcl, hh, hc⟩),
    fun h => exec_stepX_notEnabled (closeReady_eq_false_iff.mpr h)⟩

/-- Settles O19: the three answers of `WAITSENT`, then the signal, the expiry and the hold of `S_WAIT`. -/
theorem waitsentWaitsForTheSignal : Obligations.WaitsentWaitsForTheSignal := by
  refine fun s => ⟨exec_waitsent_of_idle, exec_waitsent_closed, exec_waitsent_busy, exec_sWait_of_txDone,
    exec_sWait_of_expired, fun hp ht hd t e => ?_⟩
  rw [exec_sWait_hold hp ht hd] at e
  cases e

end Sys2Proof.Machine
end

section
/-! Exceptions and the environment (60_exceptions.md): the refusals of R241, then the radio's three steps, one lemma per
exit. -/

namespace Sys2Proof.Machine

open Sys2Proof

section Exceptions

variable {s : State} {i : Instr} {op : Byte} {operands : Bytes}
variable {addr cfg power preset : Byte} {cad retry wps : Ticks}

/-! ### The tests (3) and (4) of R241 -/

/-- Commands run behind the acceptance test, each under its own opcode; the tests (1) and (2) of R241, which come before
it, are those of `ILLEGAL`, `SETCB` and `INIT`. -/
theorem exec_eq_accept_of_cmd (he : encode i = .record (.cmd (op :: operands)))
    (hinit : ∀ a b c d e f g, i ≠ .init a b c d e f g) (hillegal : ∀ o, i ≠ .illegal o)
    (hsetcb : ∀ en, i = .setcb en → en.toNat ≤ 1) (s : State) :
    ∃ sequenced run, exec i s = .next (accept op sequenced s run) := by
  cases i with
  | send | sendw | modeIdle | modeRx | modeTx | sleep | waitsent | close | encode | decode =>
    cases he
    exact ⟨_, _, rfl⟩
  | setcb en =>
    cases he
    exact ⟨_, _, exec_setcb_of_legal (hsetcb en rfl)⟩
  | init => exact (hinit _ _ _ _ _ _ _ rfl).elim
  | illegal => exact (hillegal _ rfl).elim
  -- the rows that no command record encodes
  | frameAck | frameDataBcast | frameDataUcast | evTick | evTxdone | evRxdone | evCaddone | stepC | stepH | stepX
  | irqSent | irqRecv | irqCad | hIdle | hFlags | hSent | hRead | hFilter | hDeliver
  | cAfterSend | cAfterSendw | wWait | sWait => cases he
  | gStart a | gCad a | gPoll a | gBusy a | gBackoff a | gFifo a | gTrig a => cases a <;> cases he

theorem exec_send_busy (ho : s.session.isOpen = true) (hc : s.c.seq ≠ .idle) (dst id flags : Byte) (p : Bytes) :
    exec (.send dst id flags p) s = .next (respond opSend .busy [] s) := by
  rw [exec, execSend, accept_busy ho hc]

theorem exec_sendw_busy (ho : s.session.isOpen = true) (hc : s.c.seq ≠ .idle) (dst flags retries : Byte) (p : Bytes) :
    exec (.sendw dst flags retries p) s = .next (respond opSendw .busy [] s) := by
  rw [exec, execSendw, accept_busy ho hc]

/-! ### The refusals of `INIT` (R102, R220) -/

theorem initIllegal_eq_true_iff :
    initIllegal addr cfg = true ↔
      addr = 255 ∨ 4 ≤ cfg.toNat ∨ (cfg.getLsbD 1 = true ∧ Config.cipherPresent = false) := by
  rw [← Bool.not_eq_false, initIllegal_eq_false_iff]
  simp only [not_and_or, not_not, Nat.not_lt, Classical.not_imp, Bool.not_eq_true, ne_eq]

theorem initBusy_eq_true_iff :
    initBusy s = true ↔
      s.session.isOpen = true ∨ s.session.closing = true ∨ s.c.seq ≠ .idle ∨ s.h.seq ≠ .idle := by
  rw [← Bool.not_eq_false, initBusy_eq_false_iff]
  simp only [not_and_or, Bool.not_eq_false, ne_eq]

theorem exec_init_of_illegal (hl : initIllegal addr cfg = true) :
    exec (.init addr cfg power preset cad retry wps) s = .next (respond opInit .illegalCommand [] s) := by
  rw [exec, execInit, if_pos hl]

theorem exec_init_of_busy (hl : initIllegal addr cfg = false) (hb : initBusy s = true) :
    exec (.init addr cfg power preset cad retry wps) s = .next (respond opInit .busy [] s) := by
  rw [exec, execInit, hl, if_pos hb]
  rfl

/-! ### The radio's steps (R146, R244 to R246) -/

theorem txdoneEnabled_eq_true_iff :
    txdoneEnabled s = true ↔
      s.session.isOpen = true ∧ s.session.mode = .transmitting ∧ s.radio.txInflight = true := by
  simp only [txdoneEnabled, Bool.and_eq_true, decide_eq_true_eq, and_assoc]

theorem rxdoneEnabled_eq_true_iff :
    rxdoneEnabled s = true ↔ s.session.isOpen = true ∧ (s.session.mode = .idle ∨ s.session.mode = .receiving) := by
  simp only [rxdoneEnabled, receiveCapable, Bool.and_eq_true, decide_eq_true_eq]

theorem caddoneEnabled_eq_true_iff :
    caddoneEnabled s = true ↔
      s.session.isOpen = true ∧ s.session.mode = .channelListen ∧ s.radio.cadInflight = true := by
  simp only [caddoneEnabled, Bool.and_eq_true, decide_eq_true_eq, and_assoc]

theorem exec_evTxdone_of_enabled (h : txdoneEnabled s = true) :
    exec .evTxdone s =
      .next (raiseIrq { s.radio.irqf with txDone := true }
        { s with air := s.air ++ [s.radio.txBytes], radio := { s.radio with txInflight := false } }) :=
  stepIf_of_true h

theorem exec_evRxdone_of_enabled (v : Bool) (rssi snr : Byte) {b : Bytes} (hb : b.length ≤ 255)
    (h : rxdoneEnabled s = true) :
    exec (.evRxdone v rssi snr b) s =
      .next (raiseIrq { s.radio.irqf with rxDone := true } { s with radio := deposit v rssi snr b s.radio }) :=
  (exec_evRxdone_of_le v rssi snr hb).trans (stepIf_of_true h)

theorem exec_evCaddone_of_enabled (d : Bool) (h : caddoneEnabled s = true) :
    exec (.evCaddone d) s =
      .next (raiseIrq { s.radio.irqf with cadDone := true, cadDetected := d }
        { s with radio := { s.radio with cadInflight := false } }) :=
  stepIf_of_true h

/-- A stop is no next state. -/
theorem exec_ne_next_of_refused {r : Refusal} (h : exec i s = .refused r) (t : State) : exec i s ≠ .next t := by
  rw [h]
  nofun

end Exceptions

/-! ### The statements -/

/-- Settles O21: each of these commands runs behind the acceptance test, whose first question is `S.OPEN`. -/
theorem closedSessionRefusesCommands : Obligations.ClosedSessionRefusesCommands := by
  intro i op operands s he ho hinit hillegal hsetcb
  obtain ⟨sequenced, run, hrun⟩ := exec_eq_accept_of_cmd he hinit hillegal hsetcb s
  rw [hrun, accept_closed ho]
  rfl

/-- Settles O15: the operands are tested before the session and the sequencers. -/
theorem initRefusals : Obligations.InitRefusals := fun _ _ _ _ _ _ _ _ =>
  ⟨fun h => exec_init_of_illegal (initIllegal_eq_true_iff.mpr h),
    fun hlegal hbusy => exec_init_of_busy (initIllegal_eq_false_iff.mpr hlegal) (initBusy_eq_true_iff.mpr hbusy)⟩

/-- Settles O22: `Busy` is the acceptance test's answer whatever the operands are. -/
theorem busyRefusesSequencedCommands : Obligations.BusyRefusesSequencedCommands := fun _ ho hc =>
  ⟨exec_send_busy ho hc, exec_sendw_busy ho hc, exec_waitsent_busy ho hc⟩

/-- Settles O44: of all next states only a tick's has another time (`tracesGrowAndFaultsStick`). -/
theorem tickAdvancesTime : Obligations.TickAdvancesTime := by
  refine ⟨fun _ => rfl, fun i s t hi e => ?_⟩
  obtain ⟨-, -, -, hnow, -⟩ := tracesGrowAndFaultsStick i s t e
  obtain hkept | ⟨htick, -⟩ := hnow
  · exact hkept
  · exact absurd htick hi

/-- Settles O45: the two clauses are `txdoneEnabled` true and false. -/
theorem transmissionCompletes : Obligations.TransmissionCompletes := fun _ =>
  ⟨fun ho hm hf => exec_evTxdone_of_enabled (txdoneEnabled_eq_true_iff.mpr ⟨ho, hm, hf⟩),
    fun h => exec_ne_next_of_refused (exec_evTxdone_notEnabled (txdoneEnabled_eq_false_iff.mpr h))⟩

/-- Settles O46: the frame fits its count byte, and the two clauses are `rxdoneEnabled` true and false. -/
theorem frameIsDeposited : Obligations.FrameIsDeposited := fun _ v rssi snr _ hb =>
  ⟨fun ho hm => exec_evRxdone_of_enabled v rssi snr hb (rxdoneEnabled_eq_true_iff.mpr ⟨ho, hm⟩),
    fun h => exec_ne_next_of_refused (exec_evRxdone_notEnabled v rssi snr hb (rxdoneEnabled_eq_false_iff.mpr h))⟩

/-- Settles O47: the two clauses are `caddoneEnabled` true and false; the step itself ends the detection. -/
theorem detectionReports : Obligations.DetectionReports := fun _ d =>
  ⟨fun ho hm hf => exec_evCaddone_of_enabled d (caddoneEnabled_eq_true_iff.mpr ⟨ho, hm, hf⟩),
    fun h => exec_ne_next_of_refused (exec_evCaddone_notEnabled d (caddoneEnabled_eq_false_iff.mpr h))⟩

end Sys2Proof.Machine
end

section
/-! Reset and hazards (70_reset_and_hazards.md): the one way an instruction faults, which the invariant excludes,
and the quiescent block, in which no sequencer and no `CLOSE` moves. -/

namespace Sys2Proof.Machine

open Sys2Proof

section Hazards

variable {s : State} {i : Instr} {a : Sequencer} {p : GatePhase} {f : Fault}

/-! ### Where a fault comes from (R64) -/

/-- Sequencer `a` stands at `G_FIFO` with a frame that cannot be written. -/
def Overruns (a : Sequencer) (s : State) : Prop :=
  inGate a .fifo s = true ∧ fifoWritable s.params (gateRegs a s).frame = false

/-- It is exactly what makes the model's `G_FIFO` fault. -/
theorem execGFifo_eq_fault_iff :
    execGFifo a s = .fault f ↔ Overruns a s ∧ f = .fifoLength (gateRegs a s).frame.length := by
  unfold execGFifo Overruns
  cases inGate a .fifo s with
  | false => simp
  | true => cases fifoWritable s.params (gateRegs a s).frame <;> simp [eq_comm]

/-- Of the seven gate phases only `G_FIFO` can fault. -/
theorem overruns_of_stepGate_fault (e : stepGate a p s = .fault f) : Overruns a s := by
  cases p with
  | start | cad | busy | trig => exact absurd e stepIf_ne_fault
  | poll =>
    simp only [stepGate, execGPoll] at e
    split at e
    · cases e
    split at e
    · cases e
    · exact absurd e stepIf_ne_fault
  | backoff =>
    simp only [stepGate, execGBackoff] at e
    split at e
    · cases e
    · exact absurd e stepIf_ne_fault
  | fifo => exact (execGFifo_eq_fault_iff.mp e).1

theorem execWWait_ne_fault : execWWait s ≠ .fault f := by
  unfold execWWait
  split
  · nofun
  split
  · nofun
  · exact stepIf_ne_fault

theorem execSWait_ne_fault : execSWait s ≠ .fault f := by
  unfold execSWait
  split
  · nofun
  split
  · nofun
  · exact stepIf_ne_fault

theorem execHIdle_ne_fault : execHIdle s ≠ .fault f := by
  unfold execHIdle
  split
  · nofun
  · exact stepIf_ne_fault

theorem dispatchFrame_ne_fault (h : Header) (b : Bytes) : dispatchFrame h b s ≠ .fault f := by
  unfold dispatchFrame
  split <;> exact stepIf_ne_fault

/-- A frame the filter rejects is dropped: no failed test is fatal (R165 to R167). -/
theorem execHFilter_ne_fault : execHFilter s ≠ .fault f := by
  unfold execHFilter
  split
  · nofun
  split
  · nofun
  split
  · nofun
  split
  · nofun
  split
  · exact dispatchFrame_ne_fault _ _
  · nofun

theorem execEvRxdone_ne_fault {v : Bool} {rssi snr : Byte} {b : Bytes} : execEvRxdone v rssi snr b s ≠ .fault f := by
  unfold execEvRxdone
  split
  · nofun
  · exact stepIf_ne_fault

theorem overruns_of_execStepC_fault (e : execStepC s = .fault f) : Overruns .c s := by
  unfold execStepC at e
  split at e
  · cases e
  · exact overruns_of_stepGate_fault e
  · exact absurd e stepIf_ne_fault
  · exact absurd e stepIf_ne_fault
  · cases e
  · exact absurd e execWWait_ne_fault
  · exact absurd e execSWait_ne_fault

theorem overruns_of_execStepH_fault (e : execStepH s = .fault f) : Overruns .h s := by
  unfold execStepH at e
  split at e
  · exact absurd e execHIdle_ne_fault
  · exact absurd e stepIf_ne_fault
  · exact absurd e stepIf_ne_fault
  · exact absurd e stepIf_ne_fault
  · exact absurd e execHFilter_ne_fault
  · exact overruns_of_stepGate_fault e
  · exact absurd e stepIf_ne_fault

/-- Every fault of every instruction is that of a sequencer at `G_FIFO` whose frame cannot be written. -/
theorem overruns_of_exec_fault (e : exec i s = .fault f) : ∃ a, Overruns a s := by
  cases i with
  -- commands answer, whatever they are given
  | send | sendw | modeIdle | modeRx | modeTx | sleep | waitsent | close | setcb | init | encode | decode | illegal
  | evTick => cases e
  -- steps with one enabling condition
  | stepX | evTxdone | evCaddone | irqSent | irqRecv | irqCad | frameAck | frameDataBcast | frameDataUcast
  | hFlags | hSent | hRead | hDeliver | cAfterSend | cAfterSendw => exact absurd e stepIf_ne_fault
  | evRxdone => exact absurd e execEvRxdone_ne_fault
  | hIdle => exact absurd e execHIdle_ne_fault
  | hFilter => exact absurd e execHFilter_ne_fault
  | wWait => exact absurd e execWWait_ne_fault
  | sWait => exact absurd e execSWait_ne_fault
  -- the gate, as a row and under the step records
  | gStart a => exact ⟨a, overruns_of_stepGate_fault (p := .start) e⟩
  | gCad a => exact ⟨a, overruns_of_stepGate_fault (p := .cad) e⟩
  | gPoll a => exact ⟨a, overruns_of_stepGate_fault (p := .poll) e⟩
  | gBusy a => exact ⟨a, overruns_of_stepGate_fault (p := .busy) e⟩
  | gBackoff a => exact ⟨a, overruns_of_stepGate_fault (p := .backoff) e⟩
  | gFifo a => exact ⟨a, overruns_of_stepGate_fault (p := .fifo) e⟩
  | gTrig a => exact ⟨a, overruns_of_stepGate_fault (p := .trig) e⟩
  | stepC => exact ⟨.c, overruns_of_execStepC_fault e⟩
  | stepH => exact ⟨.h, overruns_of_execStepH_fault e⟩

/-! ### The invariant excludes it (R39, R191) -/

/-- A sequencer in the gate carries a frame that can be written, whichever of the two it is. -/
theorem Inv.gate_frame (h : Inv s) (hg : inGate a p s = true) : frameSized s.params (gateRegs a s).frame := by
  cases a with
  | c =>
    have hp : s.c.seq = .gate p := of_decide_eq_true hg
    exact h.caller_frame (by rw [hp]; rfl)
  | h => exact h.handler_frame p (of_decide_eq_true hg)

theorem Inv.not_overruns (h : Inv s) : ¬ Overruns a s := by
  rintro ⟨hg, hw⟩
  rw [fifoWritable_of_frameSized (h.gate_frame hg)] at hw
  cases hw

/-- No instruction faults under the invariant, not only those a record names. -/
theorem Inv.exec_ne_fault (h : Inv s) : exec i s ≠ .fault f := by
  intro e
  obtain ⟨_, ho⟩ := overruns_of_exec_fault e
  exact h.not_overruns ho

/-! ### Quiescence (R283) -/

theorem quiescent_eq_true_iff :
    quiescent s = true ↔
      s.c.seq = .idle ∧ s.h.seq = .idle ∧ s.session.closing = false ∧
        (s.radio.irqPend = false ∨ s.session.isOpen = false) := by
  simp only [quiescent, Bool.and_eq_true, Bool.or_eq_true, decide_eq_true_eq, Bool.not_eq_true', and_assoc,
    or_comm (a := s.session.isOpen = false)]

/-- An idle handler has no micro-step while no edge is latched or the session is not open (R160). -/
theorem exec_stepH_idle (hp : s.h.seq = .idle) (h : s.radio.irqPend = false ∨ s.session.isOpen = false) :
    exec .stepH s = .refused .hold := by
  rw [exec_stepH_eq_select, hp]
  exact exec_hIdle_hold hp h

end Hazards

/-! ### The statements -/

/-- Settles O53: a step that fetches no instruction is refused; one that does runs it on a state that differs in the
script alone, of which the invariant does not speak. -/
theorem goodStatesNeverFault : Obligations.GoodStatesNeverFault := by
  intro s h f e
  unfold step at e
  cases hf : fetch s with
  | error r => simp [hf] at e
  | ok q =>
    obtain ⟨r, later, -, -, htaken⟩ := fetch_eq_ok.mp hf
    simp only [hf] at e
    exact (htaken ▸ inv_takeScript later h).exec_ne_fault e

/-- Settles O55: each conjunct of quiescence disables one of the three step records. -/
theorem quiescentSequencersHold : Obligations.QuiescentSequencersHold := by
  intro s hq
  obtain ⟨hc, hh, hclosing, hlatch⟩ := quiescent_eq_true_iff.mp hq
  exact ⟨exec_stepC_idle hc, exec_stepH_idle hh hlatch,
    exec_stepX_notEnabled (closeReady_eq_false_iff.mpr (.inl hclosing))⟩

end Sys2Proof.Machine
end
